-- ==== Sys2Proof/Word.lean ====
section
/-!
DEFINITION. The bit-vector widths of `spec/00_scope.md` rule R5: a byte and a predicate register are 8 bits, a
general register and an address 32, a register pair 64.
-/

namespace Sys2Proof

/-- `W8`: one byte of memory, and the contents of one predicate register (R5, R13). -/
abbrev Byte := BitVec 8

/-- `W16`: a halfword (R5). -/
abbrev Half := BitVec 16

/-- `W32`: the contents of a general register, an address, the program counter (R5, R10, R19). -/
abbrev Word := BitVec 32

/-- `W64`: the contents of a register pair (R5, R11). -/
abbrev DWord := BitVec 64

/-- Text as the bytes of its characters (R50: the model is at assembly-text level). -/
abbrev Text := List Byte

end Sys2Proof
end

