-- ==== Sys2Proof/Config.lean ====
section
/-!
DEFINITION. The constants of `spec/00_scope.md` rule R4 and the values the spec leaves open. An `opaque` constant
has no body: nothing in Lean can evaluate it, so a theorem that mentions one holds whatever it is.
-/

namespace Sys2Proof.Config

/-- `NREG`, the number of general registers (R4, R10, D2; entry 24: PRESUMED, the spec's own general knowledge). -/
def generalRegisters : Nat := 32

/-- `NPRED`, the number of predicate registers (R4: fixed by the source). -/
def predicateRegisters : Nat := 4

/-- `MAXPKT`, the most instructions in one packet (R4, R51, D22; entry 24). -/
def maxPacket : Nat := 4

/-- `INSN_BYTES`, the bytes of one instruction, used only to advance the pc (R4, R19, D3; entry 24). -/
def insnBytes : Nat := 4

/-- The most memory instructions in one packet (R44, D8; entry 24). -/
def maxMemory : Nat := 2

/-- `CAUSE_MULTI_WRITE`, the cause code of the multiple-write error exception: OPEN (R4, R601, D10; entry 12). DESIGN
CHOICE: the spec gives it no width; the model makes it 8 bits, the least whole byte that holds D10's `0x1D`. -/
opaque causeMultiWrite : Byte

/-- `TlbMatch`: the match of a TLB entry with an `ASID:PPN` word, an uninterpreted function of the two register
values (R155, D17, U12; entry 22). -/
opaque tlbMatch : DWord → Word → Bool

/-- The range test of `boundscheck` where it is not the spec's default one: OPEN (R154, D16, U11; entry 20). -/
opaque boundsCheckOther : Word → DWord → Bool

/-- The outcome of `tstbit(Rs,Rt)` with `Rt` above 31 where it is not the spec's default one: OPEN (R142, D20, U13;
entry 21). -/
opaque tstbitWideOther : Word → Word → Bool

/-- The draw for a byte nothing has written: `unwrittenByte k a` is what a read of address `a` by the packet after
`k` committed packets finds there (R36, U7: a draw per byte; entry 7). -/
opaque unwrittenByte : Nat → Nat → Byte

/-- The draw `ScOutcome`: `scOutcome k p` for the store conditional that writes predicate register number `p` in the
packet after `k` committed packets (R40, U14; entry 9). -/
opaque scOutcome : Nat → Nat → Bool

end Sys2Proof.Config
end

