-- ==== Sys2Proof/Syntax.lean ====
section
/-!
DEFINITION. The syntax of the machine: one constructor of `Instr` per row of `spec/opcode_table.json` (in the table's
order), and the grammar of `spec/30_encoding.md` rule R52 behind it, `line ::= [guard] operation`.
-/

namespace Sys2Proof

/-- A general register `R0` to `R31` (R10, R54). -/
abbrev GReg := Fin 32

/-- A register pair: `k` is the pair `R(2k+1):R(2k)` (R11, R54). -/
abbrev PairReg := Fin 16

/-- A predicate register `P0` to `P3` (R13, R54). -/
abbrev PReg := Fin 4

/-- The name of a packet of the program (R60). -/
abbrev Label := Text

/-- The four predicate expressions of a conditional instruction (R200). -/
inductive Guard where
  /-- `if (Pu)`: bit 0 of the old value is 1. -/
  | ifT (pu : PReg)
  /-- `if (!Pu)`: bit 0 of the old value is 0. -/
  | ifF (pu : PReg)
  /-- `if (Pu.new)`: bit 0 of the newly generated value is 1. -/
  | ifTnew (pu : PReg)
  /-- `if (!Pu.new)`: bit 0 of the newly generated value is 0. -/
  | ifFnew (pu : PReg)
  deriving DecidableEq, Repr

/-- The instructions of `spec/opcode_table.json`, one constructor per row, in the table's order. An immediate is the
number written after `#`; its range is a matter of `WellFormed`. -/
inductive Instr where
  /-- `Pd = cmpb.eq(Rs,Rt)` (R101). -/
  | cmpbEqRr (pd : PReg) (rs rt : GReg)
  /-- `Pd = cmpb.eq(Rs,#u8)` (R102). -/
  | cmpbEqRi (pd : PReg) (rs : GReg) (imm : Int)
  /-- `Pd = cmph.eq(Rs,Rt)` (R103). -/
  | cmphEqRr (pd : PReg) (rs rt : GReg)
  /-- `Pd = cmph.eq(Rs,#s8)` (R104). -/
  | cmphEqRi (pd : PReg) (rs : GReg) (imm : Int)
  /-- `Pd = cmp.eq(Rs,Rt)` (R105). -/
  | cmpEqRr (pd : PReg) (rs rt : GReg)
  /-- `Pd = !cmp.eq(Rs,Rt)` (R106). -/
  | ncmpEqRr (pd : PReg) (rs rt : GReg)
  /-- `Pd = cmp.eq(Rs,#s10)` (R107). -/
  | cmpEqRi (pd : PReg) (rs : GReg) (imm : Int)
  /-- `Pd = !cmp.eq(Rs,#s10)` (R108). -/
  | ncmpEqRi (pd : PReg) (rs : GReg) (imm : Int)
  /-- `Pd = cmp.eq(Rss,Rtt)` (R109). -/
  | cmpEqPp (pd : PReg) (rss rtt : PairReg)
  /-- `Pd = sfcmp.eq(Rs,Rt)` (R110). -/
  | sfcmpEq (pd : PReg) (rs rt : GReg)
  /-- `Pd = dfcmp.eq(Rss,Rtt)` (R111). -/
  | dfcmpEq (pd : PReg) (rss rtt : PairReg)
  /-- `Pd = cmpb.gt(Rs,Rt)` (R112). -/
  | cmpbGtRr (pd : PReg) (rs rt : GReg)
  /-- `Pd = cmpb.gt(Rs,#s8)` (R113). -/
  | cmpbGtRi (pd : PReg) (rs : GReg) (imm : Int)
  /-- `Pd = cmph.gt(Rs,Rt)` (R114). -/
  | cmphGtRr (pd : PReg) (rs rt : GReg)
  /-- `Pd = cmph.gt(Rs,#s8)` (R115). -/
  | cmphGtRi (pd : PReg) (rs : GReg) (imm : Int)
  /-- `Pd = cmp.gt(Rs,Rt)` (R116). -/
  | cmpGtRr (pd : PReg) (rs rt : GReg)
  /-- `Pd = !cmp.gt(Rs,Rt)` (R117). -/
  | ncmpGtRr (pd : PReg) (rs rt : GReg)
  /-- `Pd = cmp.gt(Rs,#s10)` (R118). -/
  | cmpGtRi (pd : PReg) (rs : GReg) (imm : Int)
  /-- `Pd = !cmp.gt(Rs,#s10)` (R119). -/
  | ncmpGtRi (pd : PReg) (rs : GReg) (imm : Int)
  /-- `Pd = cmp.gt(Rss,Rtt)` (R120). -/
  | cmpGtPp (pd : PReg) (rss rtt : PairReg)
  /-- `Pd = sfcmp.gt(Rs,Rt)` (R121). -/
  | sfcmpGt (pd : PReg) (rs rt : GReg)
  /-- `Pd = dfcmp.gt(Rss,Rtt)` (R122). -/
  | dfcmpGt (pd : PReg) (rss rtt : PairReg)
  /-- `Pd = cmpb.gtu(Rs,Rt)` (R123). -/
  | cmpbGtuRr (pd : PReg) (rs rt : GReg)
  /-- `Pd = cmpb.gtu(Rs,#u7)` (R124). -/
  | cmpbGtuRi (pd : PReg) (rs : GReg) (imm : Int)
  /-- `Pd = cmph.gtu(Rs,Rt)` (R125). -/
  | cmphGtuRr (pd : PReg) (rs rt : GReg)
  /-- `Pd = cmph.gtu(Rs,#u7)` (R126). -/
  | cmphGtuRi (pd : PReg) (rs : GReg) (imm : Int)
  /-- `Pd = cmp.gtu(Rs,Rt)` (R127). -/
  | cmpGtuRr (pd : PReg) (rs rt : GReg)
  /-- `Pd = !cmp.gtu(Rs,Rt)` (R128). -/
  | ncmpGtuRr (pd : PReg) (rs rt : GReg)
  /-- `Pd = cmp.gtu(Rs,#u9)` (R129). -/
  | cmpGtuRi (pd : PReg) (rs : GReg) (imm : Int)
  /-- `Pd = !cmp.gtu(Rs,#u9)` (R130). -/
  | ncmpGtuRi (pd : PReg) (rs : GReg) (imm : Int)
  /-- `Pd = cmp.gtu(Rss,Rtt)` (R131). -/
  | cmpGtuPp (pd : PReg) (rss rtt : PairReg)
  /-- `Pd = cmp.ge(Rs,#s8)` (R132). -/
  | cmpGeRi (pd : PReg) (rs : GReg) (imm : Int)
  /-- `Pd = sfcmp.ge(Rs,Rt)` (R133). -/
  | sfcmpGe (pd : PReg) (rs rt : GReg)
  /-- `Pd = dfcmp.ge(Rss,Rtt)` (R134). -/
  | dfcmpGe (pd : PReg) (rss rtt : PairReg)
  /-- `Pd = cmp.geu(Rs,#u8)` (R135). -/
  | cmpGeuRi (pd : PReg) (rs : GReg) (imm : Int)
  /-- `Pd = cmp.lt(Rs,Rt)` (R136). -/
  | cmpLtRr (pd : PReg) (rs rt : GReg)
  /-- `Pd = cmp.ltu(Rs,Rt)` (R137). -/
  | cmpLtuRr (pd : PReg) (rs rt : GReg)
  /-- `Pd = sfcmp.uo(Rs,Rt)` (R138). -/
  | sfcmpUo (pd : PReg) (rs rt : GReg)
  /-- `Pd = dfcmp.uo(Rss,Rtt)` (R139). -/
  | dfcmpUo (pd : PReg) (rss rtt : PairReg)
  /-- `Pd = sfclass(Rs,#u5)` (R140). -/
  | sfclass (pd : PReg) (rs : GReg) (imm : Int)
  /-- `Pd = dfclass(Rss,#u5)` (R141). -/
  | dfclass (pd : PReg) (rss : PairReg) (imm : Int)
  /-- `Pd = tstbit(Rs,Rt)` (R142). -/
  | tstbitRr (pd : PReg) (rs rt : GReg)
  /-- `Pd = !tstbit(Rs,Rt)` (R143). -/
  | ntstbitRr (pd : PReg) (rs rt : GReg)
  /-- `Pd = tstbit(Rs,#u5)` (R144). -/
  | tstbitRi (pd : PReg) (rs : GReg) (imm : Int)
  /-- `Pd = !tstbit(Rs,#u5)` (R145). -/
  | ntstbitRi (pd : PReg) (rs : GReg) (imm : Int)
  /-- `Pd = bitsclr(Rs,Rt)` (R146). -/
  | bitsclrRr (pd : PReg) (rs rt : GReg)
  /-- `Pd = !bitsclr(Rs,Rt)` (R147). -/
  | nbitsclrRr (pd : PReg) (rs rt : GReg)
  /-- `Pd = bitsclr(Rs,#u6)` (R148). -/
  | bitsclrRi (pd : PReg) (rs : GReg) (imm : Int)
  /-- `Pd = !bitsclr(Rs,#u6)` (R149). -/
  | nbitsclrRi (pd : PReg) (rs : GReg) (imm : Int)
  /-- `Pd = bitsset(Rs,Rt)` (R150). -/
  | bitssetRr (pd : PReg) (rs rt : GReg)
  /-- `Pd = !bitsset(Rs,Rt)` (R151). -/
  | nbitssetRr (pd : PReg) (rs rt : GReg)
  /-- `memw_locked(Rs,Pd) = Rt` (R152). -/
  | memwLockedSt (rs : GReg) (pd : PReg) (rt : GReg)
  /-- `memd_locked(Rs,Pd) = Rtt` (R153). -/
  | memdLockedSt (rs : GReg) (pd : PReg) (rtt : PairReg)
  /-- `Pd = boundscheck(Rs,Rtt)` (R154). -/
  | boundscheck (pd : PReg) (rs : GReg) (rtt : PairReg)
  /-- `Pd = tlbmatch(Rss,Rt)` (R155). -/
  | tlbmatch (pd : PReg) (rss : PairReg) (rt : GReg)
  /-- `Rd = cmp.eq(Rs,Rt)` (R156). -/
  | cmpEqToR (rd rs rt : GReg)
  /-- `Pd = Ps` (R500). -/
  | tfrPp (pd ps : PReg)
  /-- `Pd = Rs` (R501). -/
  | tfrPr (pd : PReg) (rs : GReg)
  /-- `Rd = Ps` (R502). -/
  | tfrRp (rd : GReg) (ps : PReg)
  /-- `Pd = and(Ps,Pt)` (R503). -/
  | andPp (pd ps pt : PReg)
  /-- `Pd = and(Ps,!Pt)` (R504). -/
  | andPpn (pd ps pt : PReg)
  /-- `Pd = or(Ps,Pt)` (R505). -/
  | orPp (pd ps pt : PReg)
  /-- `Pd = or(Ps,!Pt)` (R506). -/
  | orPpn (pd ps pt : PReg)
  /-- `Pd = and(Ps,and(Pt,Pu))` (R507). -/
  | andAndPpp (pd ps pt pu : PReg)
  /-- `Pd = and(Ps,and(Pt,!Pu))` (R508). -/
  | andAndPppn (pd ps pt pu : PReg)
  /-- `Pd = and(Ps,or(Pt,Pu))` (R509). -/
  | andOrPpp (pd ps pt pu : PReg)
  /-- `Pd = and(Ps,or(Pt,!Pu))` (R510). -/
  | andOrPppn (pd ps pt pu : PReg)
  /-- `Pd = or(Ps,and(Pt,Pu))` (R511). -/
  | orAndPpp (pd ps pt pu : PReg)
  /-- `Pd = or(Ps,and(Pt,!Pu))` (R512). -/
  | orAndPppn (pd ps pt pu : PReg)
  /-- `Pd = or(Ps,or(Pt,Pu))` (R513). -/
  | orOrPpp (pd ps pt pu : PReg)
  /-- `Pd = or(Ps,or(Pt,!Pu))` (R514). -/
  | orOrPppn (pd ps pt pu : PReg)
  /-- `Pd = not(Ps)` (R515). -/
  | notP (pd ps : PReg)
  /-- `Pd = xor(Ps,Pt)` (R516). -/
  | xorPp (pd ps pt : PReg)
  /-- `Pd = any8(Ps)` (R517). -/
  | any8 (pd ps : PReg)
  /-- `Pd = all8(Ps)` (R518). -/
  | all8 (pd ps : PReg)
  /-- `P3:0 = Rs` (R520). -/
  | tfrP4r (rs : GReg)
  /-- `Rd = P3:0` (R521). -/
  | tfrRp4 (rd : GReg)
  /-- `C5:4 = Rss` (R522). -/
  | tfrC54 (rss : PairReg)
  /-- `jump label` (R210). -/
  | jump (lbl : Label)
  /-- `if (Pu) jump label` (R210, R200, R201). -/
  | jumpIfT (pu : PReg) (lbl : Label)
  /-- `if (!Pu) jump label` (R210, R200, R201). -/
  | jumpIfF (pu : PReg) (lbl : Label)
  /-- `if (Pu.new) jump[:T|:NT] label` (R210, R200, R201). -/
  | jumpIfTnew (pu : PReg) (lbl : Label)
  /-- `if (!Pu.new) jump[:T|:NT] label` (R210, R200, R201). -/
  | jumpIfFnew (pu : PReg) (lbl : Label)
  /-- `call label` (R211). -/
  | call (lbl : Label)
  /-- `if (Pu) call label` (R211, R200, R201). -/
  | callIfT (pu : PReg) (lbl : Label)
  /-- `if (!Pu) call label` (R211, R200, R201). -/
  | callIfF (pu : PReg) (lbl : Label)
  /-- `if (Pu.new) call label` (R211, R200, R201). -/
  | callIfTnew (pu : PReg) (lbl : Label)
  /-- `if (!Pu.new) call label` (R211, R200, R201). -/
  | callIfFnew (pu : PReg) (lbl : Label)
  /-- `jumpr Rs` (R212). -/
  | jumpr (rs : GReg)
  /-- `if (Pu) jumpr Rs` (R212, R200, R201). -/
  | jumprIfT (pu : PReg) (rs : GReg)
  /-- `if (!Pu) jumpr Rs` (R212, R200, R201). -/
  | jumprIfF (pu : PReg) (rs : GReg)
  /-- `if (Pu.new) jumpr Rs` (R212, R200, R201). -/
  | jumprIfTnew (pu : PReg) (rs : GReg)
  /-- `if (!Pu.new) jumpr Rs` (R212, R200, R201). -/
  | jumprIfFnew (pu : PReg) (rs : GReg)
  /-- `callr Rs` (R212). -/
  | callr (rs : GReg)
  /-- `if (Pu) callr Rs` (R212, R200, R201). -/
  | callrIfT (pu : PReg) (rs : GReg)
  /-- `if (!Pu) callr Rs` (R212, R200, R201). -/
  | callrIfF (pu : PReg) (rs : GReg)
  /-- `if (Pu.new) callr Rs` (R212, R200, R201). -/
  | callrIfTnew (pu : PReg) (rs : GReg)
  /-- `if (!Pu.new) callr Rs` (R212, R200, R201). -/
  | callrIfFnew (pu : PReg) (rs : GReg)
  /-- `Rd = memw(Rs)` (R213). -/
  | memwLd (rd rs : GReg)
  /-- `if (Pu) Rd = memw(Rs)` (R213, R200, R201). -/
  | memwLdIfT (pu : PReg) (rd rs : GReg)
  /-- `if (!Pu) Rd = memw(Rs)` (R213, R200, R201). -/
  | memwLdIfF (pu : PReg) (rd rs : GReg)
  /-- `if (Pu.new) Rd = memw(Rs)` (R213, R200, R201). -/
  | memwLdIfTnew (pu : PReg) (rd rs : GReg)
  /-- `if (!Pu.new) Rd = memw(Rs)` (R213, R200, R201). -/
  | memwLdIfFnew (pu : PReg) (rd rs : GReg)
  /-- `Rdd = memd(Rs)` (R214). -/
  | memdLd (rdd : PairReg) (rs : GReg)
  /-- `if (Pu) Rdd = memd(Rs)` (R214, R200, R201). -/
  | memdLdIfT (pu : PReg) (rdd : PairReg) (rs : GReg)
  /-- `if (!Pu) Rdd = memd(Rs)` (R214, R200, R201). -/
  | memdLdIfF (pu : PReg) (rdd : PairReg) (rs : GReg)
  /-- `if (Pu.new) Rdd = memd(Rs)` (R214, R200, R201). -/
  | memdLdIfTnew (pu : PReg) (rdd : PairReg) (rs : GReg)
  /-- `if (!Pu.new) Rdd = memd(Rs)` (R214, R200, R201). -/
  | memdLdIfFnew (pu : PReg) (rdd : PairReg) (rs : GReg)
  /-- `Rd = memb(Rs)` (R215). -/
  | membLd (rd rs : GReg)
  /-- `if (Pu) Rd = memb(Rs)` (R215, R200, R201). -/
  | membLdIfT (pu : PReg) (rd rs : GReg)
  /-- `if (!Pu) Rd = memb(Rs)` (R215, R200, R201). -/
  | membLdIfF (pu : PReg) (rd rs : GReg)
  /-- `if (Pu.new) Rd = memb(Rs)` (R215, R200, R201). -/
  | membLdIfTnew (pu : PReg) (rd rs : GReg)
  /-- `if (!Pu.new) Rd = memb(Rs)` (R215, R200, R201). -/
  | membLdIfFnew (pu : PReg) (rd rs : GReg)
  /-- `Rd = memub(Rs)` (R215). -/
  | memubLd (rd rs : GReg)
  /-- `if (Pu) Rd = memub(Rs)` (R215, R200, R201). -/
  | memubLdIfT (pu : PReg) (rd rs : GReg)
  /-- `if (!Pu) Rd = memub(Rs)` (R215, R200, R201). -/
  | memubLdIfF (pu : PReg) (rd rs : GReg)
  /-- `if (Pu.new) Rd = memub(Rs)` (R215, R200, R201). -/
  | memubLdIfTnew (pu : PReg) (rd rs : GReg)
  /-- `if (!Pu.new) Rd = memub(Rs)` (R215, R200, R201). -/
  | memubLdIfFnew (pu : PReg) (rd rs : GReg)
  /-- `Rd = memh(Rs)` (R215). -/
  | memhLd (rd rs : GReg)
  /-- `if (Pu) Rd = memh(Rs)` (R215, R200, R201). -/
  | memhLdIfT (pu : PReg) (rd rs : GReg)
  /-- `if (!Pu) Rd = memh(Rs)` (R215, R200, R201). -/
  | memhLdIfF (pu : PReg) (rd rs : GReg)
  /-- `if (Pu.new) Rd = memh(Rs)` (R215, R200, R201). -/
  | memhLdIfTnew (pu : PReg) (rd rs : GReg)
  /-- `if (!Pu.new) Rd = memh(Rs)` (R215, R200, R201). -/
  | memhLdIfFnew (pu : PReg) (rd rs : GReg)
  /-- `Rd = memuh(Rs)` (R215). -/
  | memuhLd (rd rs : GReg)
  /-- `if (Pu) Rd = memuh(Rs)` (R215, R200, R201). -/
  | memuhLdIfT (pu : PReg) (rd rs : GReg)
  /-- `if (!Pu) Rd = memuh(Rs)` (R215, R200, R201). -/
  | memuhLdIfF (pu : PReg) (rd rs : GReg)
  /-- `if (Pu.new) Rd = memuh(Rs)` (R215, R200, R201). -/
  | memuhLdIfTnew (pu : PReg) (rd rs : GReg)
  /-- `if (!Pu.new) Rd = memuh(Rs)` (R215, R200, R201). -/
  | memuhLdIfFnew (pu : PReg) (rd rs : GReg)
  /-- `memw(Rs) = Rt` (R216). -/
  | memwSt (rs rt : GReg)
  /-- `if (Pu) memw(Rs) = Rt` (R216, R200, R201). -/
  | memwStIfT (pu : PReg) (rs rt : GReg)
  /-- `if (!Pu) memw(Rs) = Rt` (R216, R200, R201). -/
  | memwStIfF (pu : PReg) (rs rt : GReg)
  /-- `if (Pu.new) memw(Rs) = Rt` (R216, R200, R201). -/
  | memwStIfTnew (pu : PReg) (rs rt : GReg)
  /-- `if (!Pu.new) memw(Rs) = Rt` (R216, R200, R201). -/
  | memwStIfFnew (pu : PReg) (rs rt : GReg)
  /-- `memd(Rs) = Rtt` (R217). -/
  | memdSt (rs : GReg) (rtt : PairReg)
  /-- `if (Pu) memd(Rs) = Rtt` (R217, R200, R201). -/
  | memdStIfT (pu : PReg) (rs : GReg) (rtt : PairReg)
  /-- `if (!Pu) memd(Rs) = Rtt` (R217, R200, R201). -/
  | memdStIfF (pu : PReg) (rs : GReg) (rtt : PairReg)
  /-- `if (Pu.new) memd(Rs) = Rtt` (R217, R200, R201). -/
  | memdStIfTnew (pu : PReg) (rs : GReg) (rtt : PairReg)
  /-- `if (!Pu.new) memd(Rs) = Rtt` (R217, R200, R201). -/
  | memdStIfFnew (pu : PReg) (rs : GReg) (rtt : PairReg)
  /-- `memb(Rs) = Rt` (R218). -/
  | membSt (rs rt : GReg)
  /-- `if (Pu) memb(Rs) = Rt` (R218, R200, R201). -/
  | membStIfT (pu : PReg) (rs rt : GReg)
  /-- `if (!Pu) memb(Rs) = Rt` (R218, R200, R201). -/
  | membStIfF (pu : PReg) (rs rt : GReg)
  /-- `if (Pu.new) memb(Rs) = Rt` (R218, R200, R201). -/
  | membStIfTnew (pu : PReg) (rs rt : GReg)
  /-- `if (!Pu.new) memb(Rs) = Rt` (R218, R200, R201). -/
  | membStIfFnew (pu : PReg) (rs rt : GReg)
  /-- `memh(Rs) = Rt` (R218). -/
  | memhSt (rs rt : GReg)
  /-- `if (Pu) memh(Rs) = Rt` (R218, R200, R201). -/
  | memhStIfT (pu : PReg) (rs rt : GReg)
  /-- `if (!Pu) memh(Rs) = Rt` (R218, R200, R201). -/
  | memhStIfF (pu : PReg) (rs rt : GReg)
  /-- `if (Pu.new) memh(Rs) = Rt` (R218, R200, R201). -/
  | memhStIfTnew (pu : PReg) (rs rt : GReg)
  /-- `if (!Pu.new) memh(Rs) = Rt` (R218, R200, R201). -/
  | memhStIfFnew (pu : PReg) (rs rt : GReg)
  /-- `Rd = add(Rs,Rt)` (R219). -/
  | addRr (rd rs rt : GReg)
  /-- `if (Pu) Rd = add(Rs,Rt)` (R219, R200, R201). -/
  | addRrIfT (pu : PReg) (rd rs rt : GReg)
  /-- `if (!Pu) Rd = add(Rs,Rt)` (R219, R200, R201). -/
  | addRrIfF (pu : PReg) (rd rs rt : GReg)
  /-- `if (Pu.new) Rd = add(Rs,Rt)` (R219, R200, R201). -/
  | addRrIfTnew (pu : PReg) (rd rs rt : GReg)
  /-- `if (!Pu.new) Rd = add(Rs,Rt)` (R219, R200, R201). -/
  | addRrIfFnew (pu : PReg) (rd rs rt : GReg)
  /-- `Rd = add(Rs,#s16)` (R220). -/
  | addRi (rd rs : GReg) (imm : Int)
  /-- `if (Pu) Rd = add(Rs,#s8)` (R220, R200, R201). -/
  | addRiIfT (pu : PReg) (rd rs : GReg) (imm : Int)
  /-- `if (!Pu) Rd = add(Rs,#s8)` (R220, R200, R201). -/
  | addRiIfF (pu : PReg) (rd rs : GReg) (imm : Int)
  /-- `if (Pu.new) Rd = add(Rs,#s8)` (R220, R200, R201). -/
  | addRiIfTnew (pu : PReg) (rd rs : GReg) (imm : Int)
  /-- `if (!Pu.new) Rd = add(Rs,#s8)` (R220, R200, R201). -/
  | addRiIfFnew (pu : PReg) (rd rs : GReg) (imm : Int)
  /-- `Rd = sub(Rt,Rs)` (R221). -/
  | subRr (rd rt rs : GReg)
  /-- `if (Pu) Rd = sub(Rt,Rs)` (R221, R200, R201). -/
  | subRrIfT (pu : PReg) (rd rt rs : GReg)
  /-- `if (!Pu) Rd = sub(Rt,Rs)` (R221, R200, R201). -/
  | subRrIfF (pu : PReg) (rd rt rs : GReg)
  /-- `if (Pu.new) Rd = sub(Rt,Rs)` (R221, R200, R201). -/
  | subRrIfTnew (pu : PReg) (rd rt rs : GReg)
  /-- `if (!Pu.new) Rd = sub(Rt,Rs)` (R221, R200, R201). -/
  | subRrIfFnew (pu : PReg) (rd rt rs : GReg)
  /-- `Rd = and(Rs,Rt)` (R222). -/
  | andRr (rd rs rt : GReg)
  /-- `if (Pu) Rd = and(Rs,Rt)` (R222, R200, R201). -/
  | andRrIfT (pu : PReg) (rd rs rt : GReg)
  /-- `if (!Pu) Rd = and(Rs,Rt)` (R222, R200, R201). -/
  | andRrIfF (pu : PReg) (rd rs rt : GReg)
  /-- `if (Pu.new) Rd = and(Rs,Rt)` (R222, R200, R201). -/
  | andRrIfTnew (pu : PReg) (rd rs rt : GReg)
  /-- `if (!Pu.new) Rd = and(Rs,Rt)` (R222, R200, R201). -/
  | andRrIfFnew (pu : PReg) (rd rs rt : GReg)
  /-- `Rd = or(Rs,Rt)` (R223). -/
  | orRr (rd rs rt : GReg)
  /-- `if (Pu) Rd = or(Rs,Rt)` (R223, R200, R201). -/
  | orRrIfT (pu : PReg) (rd rs rt : GReg)
  /-- `if (!Pu) Rd = or(Rs,Rt)` (R223, R200, R201). -/
  | orRrIfF (pu : PReg) (rd rs rt : GReg)
  /-- `if (Pu.new) Rd = or(Rs,Rt)` (R223, R200, R201). -/
  | orRrIfTnew (pu : PReg) (rd rs rt : GReg)
  /-- `if (!Pu.new) Rd = or(Rs,Rt)` (R223, R200, R201). -/
  | orRrIfFnew (pu : PReg) (rd rs rt : GReg)
  /-- `Rd = xor(Rs,Rt)` (R224). -/
  | xorRr (rd rs rt : GReg)
  /-- `if (Pu) Rd = xor(Rs,Rt)` (R224, R200, R201). -/
  | xorRrIfT (pu : PReg) (rd rs rt : GReg)
  /-- `if (!Pu) Rd = xor(Rs,Rt)` (R224, R200, R201). -/
  | xorRrIfF (pu : PReg) (rd rs rt : GReg)
  /-- `if (Pu.new) Rd = xor(Rs,Rt)` (R224, R200, R201). -/
  | xorRrIfTnew (pu : PReg) (rd rs rt : GReg)
  /-- `if (!Pu.new) Rd = xor(Rs,Rt)` (R224, R200, R201). -/
  | xorRrIfFnew (pu : PReg) (rd rs rt : GReg)
  /-- `Rd = aslh(Rs)` (R225). -/
  | aslh (rd rs : GReg)
  /-- `if (Pu) Rd = aslh(Rs)` (R225, R200, R201). -/
  | aslhIfT (pu : PReg) (rd rs : GReg)
  /-- `if (!Pu) Rd = aslh(Rs)` (R225, R200, R201). -/
  | aslhIfF (pu : PReg) (rd rs : GReg)
  /-- `if (Pu.new) Rd = aslh(Rs)` (R225, R200, R201). -/
  | aslhIfTnew (pu : PReg) (rd rs : GReg)
  /-- `if (!Pu.new) Rd = aslh(Rs)` (R225, R200, R201). -/
  | aslhIfFnew (pu : PReg) (rd rs : GReg)
  /-- `Rd = asrh(Rs)` (R226). -/
  | asrh (rd rs : GReg)
  /-- `if (Pu) Rd = asrh(Rs)` (R226, R200, R201). -/
  | asrhIfT (pu : PReg) (rd rs : GReg)
  /-- `if (!Pu) Rd = asrh(Rs)` (R226, R200, R201). -/
  | asrhIfF (pu : PReg) (rd rs : GReg)
  /-- `if (Pu.new) Rd = asrh(Rs)` (R226, R200, R201). -/
  | asrhIfTnew (pu : PReg) (rd rs : GReg)
  /-- `if (!Pu.new) Rd = asrh(Rs)` (R226, R200, R201). -/
  | asrhIfFnew (pu : PReg) (rd rs : GReg)
  /-- `Rd = sxtb(Rs)` (R227). -/
  | sxtb (rd rs : GReg)
  /-- `if (Pu) Rd = sxtb(Rs)` (R227, R200, R201). -/
  | sxtbIfT (pu : PReg) (rd rs : GReg)
  /-- `if (!Pu) Rd = sxtb(Rs)` (R227, R200, R201). -/
  | sxtbIfF (pu : PReg) (rd rs : GReg)
  /-- `if (Pu.new) Rd = sxtb(Rs)` (R227, R200, R201). -/
  | sxtbIfTnew (pu : PReg) (rd rs : GReg)
  /-- `if (!Pu.new) Rd = sxtb(Rs)` (R227, R200, R201). -/
  | sxtbIfFnew (pu : PReg) (rd rs : GReg)
  /-- `Rd = sxth(Rs)` (R228). -/
  | sxth (rd rs : GReg)
  /-- `if (Pu) Rd = sxth(Rs)` (R228, R200, R201). -/
  | sxthIfT (pu : PReg) (rd rs : GReg)
  /-- `if (!Pu) Rd = sxth(Rs)` (R228, R200, R201). -/
  | sxthIfF (pu : PReg) (rd rs : GReg)
  /-- `if (Pu.new) Rd = sxth(Rs)` (R228, R200, R201). -/
  | sxthIfTnew (pu : PReg) (rd rs : GReg)
  /-- `if (!Pu.new) Rd = sxth(Rs)` (R228, R200, R201). -/
  | sxthIfFnew (pu : PReg) (rd rs : GReg)
  /-- `Rd = zxtb(Rs)` (R229). -/
  | zxtb (rd rs : GReg)
  /-- `if (Pu) Rd = zxtb(Rs)` (R229, R200, R201). -/
  | zxtbIfT (pu : PReg) (rd rs : GReg)
  /-- `if (!Pu) Rd = zxtb(Rs)` (R229, R200, R201). -/
  | zxtbIfF (pu : PReg) (rd rs : GReg)
  /-- `if (Pu.new) Rd = zxtb(Rs)` (R229, R200, R201). -/
  | zxtbIfTnew (pu : PReg) (rd rs : GReg)
  /-- `if (!Pu.new) Rd = zxtb(Rs)` (R229, R200, R201). -/
  | zxtbIfFnew (pu : PReg) (rd rs : GReg)
  /-- `Rd = zxth(Rs)` (R230). -/
  | zxth (rd rs : GReg)
  /-- `if (Pu) Rd = zxth(Rs)` (R230, R200, R201). -/
  | zxthIfT (pu : PReg) (rd rs : GReg)
  /-- `if (!Pu) Rd = zxth(Rs)` (R230, R200, R201). -/
  | zxthIfF (pu : PReg) (rd rs : GReg)
  /-- `if (Pu.new) Rd = zxth(Rs)` (R230, R200, R201). -/
  | zxthIfTnew (pu : PReg) (rd rs : GReg)
  /-- `if (!Pu.new) Rd = zxth(Rs)` (R230, R200, R201). -/
  | zxthIfFnew (pu : PReg) (rd rs : GReg)
  /-- `Rd = Rs` (R233). -/
  | tfr (rd rs : GReg)
  /-- `if (Pu) Rd = Rs` (R233, R200, R201). -/
  | tfrIfT (pu : PReg) (rd rs : GReg)
  /-- `if (!Pu) Rd = Rs` (R233, R200, R201). -/
  | tfrIfF (pu : PReg) (rd rs : GReg)
  /-- `if (Pu.new) Rd = Rs` (R233, R200, R201). -/
  | tfrIfTnew (pu : PReg) (rd rs : GReg)
  /-- `if (!Pu.new) Rd = Rs` (R233, R200, R201). -/
  | tfrIfFnew (pu : PReg) (rd rs : GReg)
  /-- `Rdd = combine(Rs,Rt)` (R234). -/
  | combine (rdd : PairReg) (rs rt : GReg)
  /-- `if (Pu) Rdd = combine(Rs,Rt)` (R234, R200, R201). -/
  | combineIfT (pu : PReg) (rdd : PairReg) (rs rt : GReg)
  /-- `if (!Pu) Rdd = combine(Rs,Rt)` (R234, R200, R201). -/
  | combineIfF (pu : PReg) (rdd : PairReg) (rs rt : GReg)
  /-- `if (Pu.new) Rdd = combine(Rs,Rt)` (R234, R200, R201). -/
  | combineIfTnew (pu : PReg) (rdd : PairReg) (rs rt : GReg)
  /-- `if (!Pu.new) Rdd = combine(Rs,Rt)` (R234, R200, R201). -/
  | combineIfFnew (pu : PReg) (rdd : PairReg) (rs rt : GReg)
  /-- `Rd = #s16` (R235). -/
  | tfri (rd : GReg) (imm : Int)
  /-- `if (Pu) Rd = #s12` (R235, R200, R201). -/
  | tfriIfT (pu : PReg) (rd : GReg) (imm : Int)
  /-- `if (!Pu) Rd = #s12` (R235, R200, R201). -/
  | tfriIfF (pu : PReg) (rd : GReg) (imm : Int)
  /-- `if (Pu.new) Rd = #s12` (R235, R200, R201). -/
  | tfriIfTnew (pu : PReg) (rd : GReg) (imm : Int)
  /-- `if (!Pu.new) Rd = #s12` (R235, R200, R201). -/
  | tfriIfFnew (pu : PReg) (rd : GReg) (imm : Int)
  /-- `dealloc_return` (R231). -/
  | deallocReturn
  /-- `if (Pu) dealloc_return` (R231, R200, R201). -/
  | deallocReturnIfT (pu : PReg)
  /-- `if (!Pu) dealloc_return` (R231, R200, R201). -/
  | deallocReturnIfF (pu : PReg)
  /-- `if (Pu.new) dealloc_return` (R231, R200, R201). -/
  | deallocReturnIfTnew (pu : PReg)
  /-- `if (!Pu.new) dealloc_return` (R231, R200, R201). -/
  | deallocReturnIfFnew (pu : PReg)
  /-- `Rd = mux(Ps,Rs,Rt)` (R232). -/
  | muxRr (rd : GReg) (ps : PReg) (rs rt : GReg)
  /-- `Pd = vcmpb.eq(Rss,Rtt)` (R401). -/
  | vcmpbEq (pd : PReg) (rss rtt : PairReg)
  /-- `Pd = vcmph.eq(Rss,Rtt)` (R402). -/
  | vcmphEq (pd : PReg) (rss rtt : PairReg)
  /-- `Pd = vcmpw.eq(Rss,Rtt)` (R403). -/
  | vcmpwEq (pd : PReg) (rss rtt : PairReg)
  /-- `Pd = vcmpb.gt(Rss,Rtt)` (R404). -/
  | vcmpbGt (pd : PReg) (rss rtt : PairReg)
  /-- `Pd = vcmpb.gtu(Rss,Rtt)` (R404). -/
  | vcmpbGtu (pd : PReg) (rss rtt : PairReg)
  /-- `Pd = vcmph.gt(Rss,Rtt)` (R404). -/
  | vcmphGt (pd : PReg) (rss rtt : PairReg)
  /-- `Pd = vcmph.gtu(Rss,Rtt)` (R404). -/
  | vcmphGtu (pd : PReg) (rss rtt : PairReg)
  /-- `Pd = vcmpw.gt(Rss,Rtt)` (R404). -/
  | vcmpwGt (pd : PReg) (rss rtt : PairReg)
  /-- `Pd = vcmpw.gtu(Rss,Rtt)` (R404). -/
  | vcmpwGtu (pd : PReg) (rss rtt : PairReg)
  /-- `Rdd = vmux(Ps,Rss,Rtt)` (R405). -/
  | vmux (rdd : PairReg) (ps : PReg) (rss rtt : PairReg)
  deriving DecidableEq, Repr

/-- The operations of the grammar of R52, without a guard. -/
inductive Operation where
  | cmpbEqRr (pd : PReg) (rs rt : GReg)
  | cmpbEqRi (pd : PReg) (rs : GReg) (imm : Int)
  | cmphEqRr (pd : PReg) (rs rt : GReg)
  | cmphEqRi (pd : PReg) (rs : GReg) (imm : Int)
  | cmpEqRr (pd : PReg) (rs rt : GReg)
  | ncmpEqRr (pd : PReg) (rs rt : GReg)
  | cmpEqRi (pd : PReg) (rs : GReg) (imm : Int)
  | ncmpEqRi (pd : PReg) (rs : GReg) (imm : Int)
  | cmpEqPp (pd : PReg) (rss rtt : PairReg)
  | sfcmpEq (pd : PReg) (rs rt : GReg)
  | dfcmpEq (pd : PReg) (rss rtt : PairReg)
  | cmpbGtRr (pd : PReg) (rs rt : GReg)
  | cmpbGtRi (pd : PReg) (rs : GReg) (imm : Int)
  | cmphGtRr (pd : PReg) (rs rt : GReg)
  | cmphGtRi (pd : PReg) (rs : GReg) (imm : Int)
  | cmpGtRr (pd : PReg) (rs rt : GReg)
  | ncmpGtRr (pd : PReg) (rs rt : GReg)
  | cmpGtRi (pd : PReg) (rs : GReg) (imm : Int)
  | ncmpGtRi (pd : PReg) (rs : GReg) (imm : Int)
  | cmpGtPp (pd : PReg) (rss rtt : PairReg)
  | sfcmpGt (pd : PReg) (rs rt : GReg)
  | dfcmpGt (pd : PReg) (rss rtt : PairReg)
  | cmpbGtuRr (pd : PReg) (rs rt : GReg)
  | cmpbGtuRi (pd : PReg) (rs : GReg) (imm : Int)
  | cmphGtuRr (pd : PReg) (rs rt : GReg)
  | cmphGtuRi (pd : PReg) (rs : GReg) (imm : Int)
  | cmpGtuRr (pd : PReg) (rs rt : GReg)
  | ncmpGtuRr (pd : PReg) (rs rt : GReg)
  | cmpGtuRi (pd : PReg) (rs : GReg) (imm : Int)
  | ncmpGtuRi (pd : PReg) (rs : GReg) (imm : Int)
  | cmpGtuPp (pd : PReg) (rss rtt : PairReg)
  | cmpGeRi (pd : PReg) (rs : GReg) (imm : Int)
  | sfcmpGe (pd : PReg) (rs rt : GReg)
  | dfcmpGe (pd : PReg) (rss rtt : PairReg)
  | cmpGeuRi (pd : PReg) (rs : GReg) (imm : Int)
  | cmpLtRr (pd : PReg) (rs rt : GReg)
  | cmpLtuRr (pd : PReg) (rs rt : GReg)
  | sfcmpUo (pd : PReg) (rs rt : GReg)
  | dfcmpUo (pd : PReg) (rss rtt : PairReg)
  | sfclass (pd : PReg) (rs : GReg) (imm : Int)
  | dfclass (pd : PReg) (rss : PairReg) (imm : Int)
  | tstbitRr (pd : PReg) (rs rt : GReg)
  | ntstbitRr (pd : PReg) (rs rt : GReg)
  | tstbitRi (pd : PReg) (rs : GReg) (imm : Int)
  | ntstbitRi (pd : PReg) (rs : GReg) (imm : Int)
  | bitsclrRr (pd : PReg) (rs rt : GReg)
  | nbitsclrRr (pd : PReg) (rs rt : GReg)
  | bitsclrRi (pd : PReg) (rs : GReg) (imm : Int)
  | nbitsclrRi (pd : PReg) (rs : GReg) (imm : Int)
  | bitssetRr (pd : PReg) (rs rt : GReg)
  | nbitssetRr (pd : PReg) (rs rt : GReg)
  | memwLockedSt (rs : GReg) (pd : PReg) (rt : GReg)
  | memdLockedSt (rs : GReg) (pd : PReg) (rtt : PairReg)
  | boundscheck (pd : PReg) (rs : GReg) (rtt : PairReg)
  | tlbmatch (pd : PReg) (rss : PairReg) (rt : GReg)
  | cmpEqToR (rd rs rt : GReg)
  | tfrPp (pd ps : PReg)
  | tfrPr (pd : PReg) (rs : GReg)
  | tfrRp (rd : GReg) (ps : PReg)
  | andPp (pd ps pt : PReg)
  | andPpn (pd ps pt : PReg)
  | orPp (pd ps pt : PReg)
  | orPpn (pd ps pt : PReg)
  | andAndPpp (pd ps pt pu : PReg)
  | andAndPppn (pd ps pt pu : PReg)
  | andOrPpp (pd ps pt pu : PReg)
  | andOrPppn (pd ps pt pu : PReg)
  | orAndPpp (pd ps pt pu : PReg)
  | orAndPppn (pd ps pt pu : PReg)
  | orOrPpp (pd ps pt pu : PReg)
  | orOrPppn (pd ps pt pu : PReg)
  | notP (pd ps : PReg)
  | xorPp (pd ps pt : PReg)
  | any8 (pd ps : PReg)
  | all8 (pd ps : PReg)
  | tfrP4r (rs : GReg)
  | tfrRp4 (rd : GReg)
  | tfrC54 (rss : PairReg)
  | jump (lbl : Label)
  | call (lbl : Label)
  | jumpr (rs : GReg)
  | callr (rs : GReg)
  | memwLd (rd rs : GReg)
  | memdLd (rdd : PairReg) (rs : GReg)
  | membLd (rd rs : GReg)
  | memubLd (rd rs : GReg)
  | memhLd (rd rs : GReg)
  | memuhLd (rd rs : GReg)
  | memwSt (rs rt : GReg)
  | memdSt (rs : GReg) (rtt : PairReg)
  | membSt (rs rt : GReg)
  | memhSt (rs rt : GReg)
  | addRr (rd rs rt : GReg)
  | addRi (rd rs : GReg) (imm : Int)
  | subRr (rd rt rs : GReg)
  | andRr (rd rs rt : GReg)
  | orRr (rd rs rt : GReg)
  | xorRr (rd rs rt : GReg)
  | aslh (rd rs : GReg)
  | asrh (rd rs : GReg)
  | sxtb (rd rs : GReg)
  | sxth (rd rs : GReg)
  | zxtb (rd rs : GReg)
  | zxth (rd rs : GReg)
  | tfr (rd rs : GReg)
  | combine (rdd : PairReg) (rs rt : GReg)
  | tfri (rd : GReg) (imm : Int)
  | deallocReturn
  | muxRr (rd : GReg) (ps : PReg) (rs rt : GReg)
  | vcmpbEq (pd : PReg) (rss rtt : PairReg)
  | vcmphEq (pd : PReg) (rss rtt : PairReg)
  | vcmpwEq (pd : PReg) (rss rtt : PairReg)
  | vcmpbGt (pd : PReg) (rss rtt : PairReg)
  | vcmpbGtu (pd : PReg) (rss rtt : PairReg)
  | vcmphGt (pd : PReg) (rss rtt : PairReg)
  | vcmphGtu (pd : PReg) (rss rtt : PairReg)
  | vcmpwGt (pd : PReg) (rss rtt : PairReg)
  | vcmpwGtu (pd : PReg) (rss rtt : PairReg)
  | vmux (rdd : PairReg) (ps : PReg) (rss rtt : PairReg)
  deriving DecidableEq, Repr

/-- One instruction line, `[guard] operation` (R52). -/
structure Line where
  guard : Option Guard
  op : Operation
  deriving DecidableEq, Repr

/-- The line that an instruction is written as (R52; the guarded rows of the table are the guarded lines of R55). -/
def Instr.line : Instr → Line
  | .cmpbEqRr pd rs rt => ⟨none, .cmpbEqRr pd rs rt⟩
  | .cmpbEqRi pd rs imm => ⟨none, .cmpbEqRi pd rs imm⟩
  | .cmphEqRr pd rs rt => ⟨none, .cmphEqRr pd rs rt⟩
  | .cmphEqRi pd rs imm => ⟨none, .cmphEqRi pd rs imm⟩
  | .cmpEqRr pd rs rt => ⟨none, .cmpEqRr pd rs rt⟩
  | .ncmpEqRr pd rs rt => ⟨none, .ncmpEqRr pd rs rt⟩
  | .cmpEqRi pd rs imm => ⟨none, .cmpEqRi pd rs imm⟩
  | .ncmpEqRi pd rs imm => ⟨none, .ncmpEqRi pd rs imm⟩
  | .cmpEqPp pd rss rtt => ⟨none, .cmpEqPp pd rss rtt⟩
  | .sfcmpEq pd rs rt => ⟨none, .sfcmpEq pd rs rt⟩
  | .dfcmpEq pd rss rtt => ⟨none, .dfcmpEq pd rss rtt⟩
  | .cmpbGtRr pd rs rt => ⟨none, .cmpbGtRr pd rs rt⟩
  | .cmpbGtRi pd rs imm => ⟨none, .cmpbGtRi pd rs imm⟩
  | .cmphGtRr pd rs rt => ⟨none, .cmphGtRr pd rs rt⟩
  | .cmphGtRi pd rs imm => ⟨none, .cmphGtRi pd rs imm⟩
  | .cmpGtRr pd rs rt => ⟨none, .cmpGtRr pd rs rt⟩
  | .ncmpGtRr pd rs rt => ⟨none, .ncmpGtRr pd rs rt⟩
  | .cmpGtRi pd rs imm => ⟨none, .cmpGtRi pd rs imm⟩
  | .ncmpGtRi pd rs imm => ⟨none, .ncmpGtRi pd rs imm⟩
  | .cmpGtPp pd rss rtt => ⟨none, .cmpGtPp pd rss rtt⟩
  | .sfcmpGt pd rs rt => ⟨none, .sfcmpGt pd rs rt⟩
  | .dfcmpGt pd rss rtt => ⟨none, .dfcmpGt pd rss rtt⟩
  | .cmpbGtuRr pd rs rt => ⟨none, .cmpbGtuRr pd rs rt⟩
  | .cmpbGtuRi pd rs imm => ⟨none, .cmpbGtuRi pd rs imm⟩
  | .cmphGtuRr pd rs rt => ⟨none, .cmphGtuRr pd rs rt⟩
  | .cmphGtuRi pd rs imm => ⟨none, .cmphGtuRi pd rs imm⟩
  | .cmpGtuRr pd rs rt => ⟨none, .cmpGtuRr pd rs rt⟩
  | .ncmpGtuRr pd rs rt => ⟨none, .ncmpGtuRr pd rs rt⟩
  | .cmpGtuRi pd rs imm => ⟨none, .cmpGtuRi pd rs imm⟩
  | .ncmpGtuRi pd rs imm => ⟨none, .ncmpGtuRi pd rs imm⟩
  | .cmpGtuPp pd rss rtt => ⟨none, .cmpGtuPp pd rss rtt⟩
  | .cmpGeRi pd rs imm => ⟨none, .cmpGeRi pd rs imm⟩
  | .sfcmpGe pd rs rt => ⟨none, .sfcmpGe pd rs rt⟩
  | .dfcmpGe pd rss rtt => ⟨none, .dfcmpGe pd rss rtt⟩
  | .cmpGeuRi pd rs imm => ⟨none, .cmpGeuRi pd rs imm⟩
  | .cmpLtRr pd rs rt => ⟨none, .cmpLtRr pd rs rt⟩
  | .cmpLtuRr pd rs rt => ⟨none, .cmpLtuRr pd rs rt⟩
  | .sfcmpUo pd rs rt => ⟨none, .sfcmpUo pd rs rt⟩
  | .dfcmpUo pd rss rtt => ⟨none, .dfcmpUo pd rss rtt⟩
  | .sfclass pd rs imm => ⟨none, .sfclass pd rs imm⟩
  | .dfclass pd rss imm => ⟨none, .dfclass pd rss imm⟩
  | .tstbitRr pd rs rt => ⟨none, .tstbitRr pd rs rt⟩
  | .ntstbitRr pd rs rt => ⟨none, .ntstbitRr pd rs rt⟩
  | .tstbitRi pd rs imm => ⟨none, .tstbitRi pd rs imm⟩
  | .ntstbitRi pd rs imm => ⟨none, .ntstbitRi pd rs imm⟩
  | .bitsclrRr pd rs rt => ⟨none, .bitsclrRr pd rs rt⟩
  | .nbitsclrRr pd rs rt => ⟨none, .nbitsclrRr pd rs rt⟩
  | .bitsclrRi pd rs imm => ⟨none, .bitsclrRi pd rs imm⟩
  | .nbitsclrRi pd rs imm => ⟨none, .nbitsclrRi pd rs imm⟩
  | .bitssetRr pd rs rt => ⟨none, .bitssetRr pd rs rt⟩
  | .nbitssetRr pd rs rt => ⟨none, .nbitssetRr pd rs rt⟩
  | .memwLockedSt rs pd rt => ⟨none, .memwLockedSt rs pd rt⟩
  | .memdLockedSt rs pd rtt => ⟨none, .memdLockedSt rs pd rtt⟩
  | .boundscheck pd rs rtt => ⟨none, .boundscheck pd rs rtt⟩
  | .tlbmatch pd rss rt => ⟨none, .tlbmatch pd rss rt⟩
  | .cmpEqToR rd rs rt => ⟨none, .cmpEqToR rd rs rt⟩
  | .tfrPp pd ps => ⟨none, .tfrPp pd ps⟩
  | .tfrPr pd rs => ⟨none, .tfrPr pd rs⟩
  | .tfrRp rd ps => ⟨none, .tfrRp rd ps⟩
  | .andPp pd ps pt => ⟨none, .andPp pd ps pt⟩
  | .andPpn pd ps pt => ⟨none, .andPpn pd ps pt⟩
  | .orPp pd ps pt => ⟨none, .orPp pd ps pt⟩
  | .orPpn pd ps pt => ⟨none, .orPpn pd ps pt⟩
  | .andAndPpp pd ps pt pu => ⟨none, .andAndPpp pd ps pt pu⟩
  | .andAndPppn pd ps pt pu => ⟨none, .andAndPppn pd ps pt pu⟩
  | .andOrPpp pd ps pt pu => ⟨none, .andOrPpp pd ps pt pu⟩
  | .andOrPppn pd ps pt pu => ⟨none, .andOrPppn pd ps pt pu⟩
  | .orAndPpp pd ps pt pu => ⟨none, .orAndPpp pd ps pt pu⟩
  | .orAndPppn pd ps pt pu => ⟨none, .orAndPppn pd ps pt pu⟩
  | .orOrPpp pd ps pt pu => ⟨none, .orOrPpp pd ps pt pu⟩
  | .orOrPppn pd ps pt pu => ⟨none, .orOrPppn pd ps pt pu⟩
  | .notP pd ps => ⟨none, .notP pd ps⟩
  | .xorPp pd ps pt => ⟨none, .xorPp pd ps pt⟩
  | .any8 pd ps => ⟨none, .any8 pd ps⟩
  | .all8 pd ps => ⟨none, .all8 pd ps⟩
  | .tfrP4r rs => ⟨none, .tfrP4r rs⟩
  | .tfrRp4 rd => ⟨none, .tfrRp4 rd⟩
  | .tfrC54 rss => ⟨none, .tfrC54 rss⟩
  | .jump lbl => ⟨none, .jump lbl⟩
  | .jumpIfT pu lbl => ⟨some (.ifT pu), .jump lbl⟩
  | .jumpIfF pu lbl => ⟨some (.ifF pu), .jump lbl⟩
  | .jumpIfTnew pu lbl => ⟨some (.ifTnew pu), .jump lbl⟩
  | .jumpIfFnew pu lbl => ⟨some (.ifFnew pu), .jump lbl⟩
  | .call lbl => ⟨none, .call lbl⟩
  | .callIfT pu lbl => ⟨some (.ifT pu), .call lbl⟩
  | .callIfF pu lbl => ⟨some (.ifF pu), .call lbl⟩
  | .callIfTnew pu lbl => ⟨some (.ifTnew pu), .call lbl⟩
  | .callIfFnew pu lbl => ⟨some (.ifFnew pu), .call lbl⟩
  | .jumpr rs => ⟨none, .jumpr rs⟩
  | .jumprIfT pu rs => ⟨some (.ifT pu), .jumpr rs⟩
  | .jumprIfF pu rs => ⟨some (.ifF pu), .jumpr rs⟩
  | .jumprIfTnew pu rs => ⟨some (.ifTnew pu), .jumpr rs⟩
  | .jumprIfFnew pu rs => ⟨some (.ifFnew pu), .jumpr rs⟩
  | .callr rs => ⟨none, .callr rs⟩
  | .callrIfT pu rs => ⟨some (.ifT pu), .callr rs⟩
  | .callrIfF pu rs => ⟨some (.ifF pu), .callr rs⟩
  | .callrIfTnew pu rs => ⟨some (.ifTnew pu), .callr rs⟩
  | .callrIfFnew pu rs => ⟨some (.ifFnew pu), .callr rs⟩
  | .memwLd rd rs => ⟨none, .memwLd rd rs⟩
  | .memwLdIfT pu rd rs => ⟨some (.ifT pu), .memwLd rd rs⟩
  | .memwLdIfF pu rd rs => ⟨some (.ifF pu), .memwLd rd rs⟩
  | .memwLdIfTnew pu rd rs => ⟨some (.ifTnew pu), .memwLd rd rs⟩
  | .memwLdIfFnew pu rd rs => ⟨some (.ifFnew pu), .memwLd rd rs⟩
  | .memdLd rdd rs => ⟨none, .memdLd rdd rs⟩
  | .memdLdIfT pu rdd rs => ⟨some (.ifT pu), .memdLd rdd rs⟩
  | .memdLdIfF pu rdd rs => ⟨some (.ifF pu), .memdLd rdd rs⟩
  | .memdLdIfTnew pu rdd rs => ⟨some (.ifTnew pu), .memdLd rdd rs⟩
  | .memdLdIfFnew pu rdd rs => ⟨some (.ifFnew pu), .memdLd rdd rs⟩
  | .membLd rd rs => ⟨none, .membLd rd rs⟩
  | .membLdIfT pu rd rs => ⟨some (.ifT pu), .membLd rd rs⟩
  | .membLdIfF pu rd rs => ⟨some (.ifF pu), .membLd rd rs⟩
  | .membLdIfTnew pu rd rs => ⟨some (.ifTnew pu), .membLd rd rs⟩
  | .membLdIfFnew pu rd rs => ⟨some (.ifFnew pu), .membLd rd rs⟩
  | .memubLd rd rs => ⟨none, .memubLd rd rs⟩
  | .memubLdIfT pu rd rs => ⟨some (.ifT pu), .memubLd rd rs⟩
  | .memubLdIfF pu rd rs => ⟨some (.ifF pu), .memubLd rd rs⟩
  | .memubLdIfTnew pu rd rs => ⟨some (.ifTnew pu), .memubLd rd rs⟩
  | .memubLdIfFnew pu rd rs => ⟨some (.ifFnew pu), .memubLd rd rs⟩
  | .memhLd rd rs => ⟨none, .memhLd rd rs⟩
  | .memhLdIfT pu rd rs => ⟨some (.ifT pu), .memhLd rd rs⟩
  | .memhLdIfF pu rd rs => ⟨some (.ifF pu), .memhLd rd rs⟩
  | .memhLdIfTnew pu rd rs => ⟨some (.ifTnew pu), .memhLd rd rs⟩
  | .memhLdIfFnew pu rd rs => ⟨some (.ifFnew pu), .memhLd rd rs⟩
  | .memuhLd rd rs => ⟨none, .memuhLd rd rs⟩
  | .memuhLdIfT pu rd rs => ⟨some (.ifT pu), .memuhLd rd rs⟩
  | .memuhLdIfF pu rd rs => ⟨some (.ifF pu), .memuhLd rd rs⟩
  | .memuhLdIfTnew pu rd rs => ⟨some (.ifTnew pu), .memuhLd rd rs⟩
  | .memuhLdIfFnew pu rd rs => ⟨some (.ifFnew pu), .memuhLd rd rs⟩
  | .memwSt rs rt => ⟨none, .memwSt rs rt⟩
  | .memwStIfT pu rs rt => ⟨some (.ifT pu), .memwSt rs rt⟩
  | .memwStIfF pu rs rt => ⟨some (.ifF pu), .memwSt rs rt⟩
  | .memwStIfTnew pu rs rt => ⟨some (.ifTnew pu), .memwSt rs rt⟩
  | .memwStIfFnew pu rs rt => ⟨some (.ifFnew pu), .memwSt rs rt⟩
  | .memdSt rs rtt => ⟨none, .memdSt rs rtt⟩
  | .memdStIfT pu rs rtt => ⟨some (.ifT pu), .memdSt rs rtt⟩
  | .memdStIfF pu rs rtt => ⟨some (.ifF pu), .memdSt rs rtt⟩
  | .memdStIfTnew pu rs rtt => ⟨some (.ifTnew pu), .memdSt rs rtt⟩
  | .memdStIfFnew pu rs rtt => ⟨some (.ifFnew pu), .memdSt rs rtt⟩
  | .membSt rs rt => ⟨none, .membSt rs rt⟩
  | .membStIfT pu rs rt => ⟨some (.ifT pu), .membSt rs rt⟩
  | .membStIfF pu rs rt => ⟨some (.ifF pu), .membSt rs rt⟩
  | .membStIfTnew pu rs rt => ⟨some (.ifTnew pu), .membSt rs rt⟩
  | .membStIfFnew pu rs rt => ⟨some (.ifFnew pu), .membSt rs rt⟩
  | .memhSt rs rt => ⟨none, .memhSt rs rt⟩
  | .memhStIfT pu rs rt => ⟨some (.ifT pu), .memhSt rs rt⟩
  | .memhStIfF pu rs rt => ⟨some (.ifF pu), .memhSt rs rt⟩
  | .memhStIfTnew pu rs rt => ⟨some (.ifTnew pu), .memhSt rs rt⟩
  | .memhStIfFnew pu rs rt => ⟨some (.ifFnew pu), .memhSt rs rt⟩
  | .addRr rd rs rt => ⟨none, .addRr rd rs rt⟩
  | .addRrIfT pu rd rs rt => ⟨some (.ifT pu), .addRr rd rs rt⟩
  | .addRrIfF pu rd rs rt => ⟨some (.ifF pu), .addRr rd rs rt⟩
  | .addRrIfTnew pu rd rs rt => ⟨some (.ifTnew pu), .addRr rd rs rt⟩
  | .addRrIfFnew pu rd rs rt => ⟨some (.ifFnew pu), .addRr rd rs rt⟩
  | .addRi rd rs imm => ⟨none, .addRi rd rs imm⟩
  | .addRiIfT pu rd rs imm => ⟨some (.ifT pu), .addRi rd rs imm⟩
  | .addRiIfF pu rd rs imm => ⟨some (.ifF pu), .addRi rd rs imm⟩
  | .addRiIfTnew pu rd rs imm => ⟨some (.ifTnew pu), .addRi rd rs imm⟩
  | .addRiIfFnew pu rd rs imm => ⟨some (.ifFnew pu), .addRi rd rs imm⟩
  | .subRr rd rt rs => ⟨none, .subRr rd rt rs⟩
  | .subRrIfT pu rd rt rs => ⟨some (.ifT pu), .subRr rd rt rs⟩
  | .subRrIfF pu rd rt rs => ⟨some (.ifF pu), .subRr rd rt rs⟩
  | .subRrIfTnew pu rd rt rs => ⟨some (.ifTnew pu), .subRr rd rt rs⟩
  | .subRrIfFnew pu rd rt rs => ⟨some (.ifFnew pu), .subRr rd rt rs⟩
  | .andRr rd rs rt => ⟨none, .andRr rd rs rt⟩
  | .andRrIfT pu rd rs rt => ⟨some (.ifT pu), .andRr rd rs rt⟩
  | .andRrIfF pu rd rs rt => ⟨some (.ifF pu), .andRr rd rs rt⟩
  | .andRrIfTnew pu rd rs rt => ⟨some (.ifTnew pu), .andRr rd rs rt⟩
  | .andRrIfFnew pu rd rs rt => ⟨some (.ifFnew pu), .andRr rd rs rt⟩
  | .orRr rd rs rt => ⟨none, .orRr rd rs rt⟩
  | .orRrIfT pu rd rs rt => ⟨some (.ifT pu), .orRr rd rs rt⟩
  | .orRrIfF pu rd rs rt => ⟨some (.ifF pu), .orRr rd rs rt⟩
  | .orRrIfTnew pu rd rs rt => ⟨some (.ifTnew pu), .orRr rd rs rt⟩
  | .orRrIfFnew pu rd rs rt => ⟨some (.ifFnew pu), .orRr rd rs rt⟩
  | .xorRr rd rs rt => ⟨none, .xorRr rd rs rt⟩
  | .xorRrIfT pu rd rs rt => ⟨some (.ifT pu), .xorRr rd rs rt⟩
  | .xorRrIfF pu rd rs rt => ⟨some (.ifF pu), .xorRr rd rs rt⟩
  | .xorRrIfTnew pu rd rs rt => ⟨some (.ifTnew pu), .xorRr rd rs rt⟩
  | .xorRrIfFnew pu rd rs rt => ⟨some (.ifFnew pu), .xorRr rd rs rt⟩
  | .aslh rd rs => ⟨none, .aslh rd rs⟩
  | .aslhIfT pu rd rs => ⟨some (.ifT pu), .aslh rd rs⟩
  | .aslhIfF pu rd rs => ⟨some (.ifF pu), .aslh rd rs⟩
  | .aslhIfTnew pu rd rs => ⟨some (.ifTnew pu), .aslh rd rs⟩
  | .aslhIfFnew pu rd rs => ⟨some (.ifFnew pu), .aslh rd rs⟩
  | .asrh rd rs => ⟨none, .asrh rd rs⟩
  | .asrhIfT pu rd rs => ⟨some (.ifT pu), .asrh rd rs⟩
  | .asrhIfF pu rd rs => ⟨some (.ifF pu), .asrh rd rs⟩
  | .asrhIfTnew pu rd rs => ⟨some (.ifTnew pu), .asrh rd rs⟩
  | .asrhIfFnew pu rd rs => ⟨some (.ifFnew pu), .asrh rd rs⟩
  | .sxtb rd rs => ⟨none, .sxtb rd rs⟩
  | .sxtbIfT pu rd rs => ⟨some (.ifT pu), .sxtb rd rs⟩
  | .sxtbIfF pu rd rs => ⟨some (.ifF pu), .sxtb rd rs⟩
  | .sxtbIfTnew pu rd rs => ⟨some (.ifTnew pu), .sxtb rd rs⟩
  | .sxtbIfFnew pu rd rs => ⟨some (.ifFnew pu), .sxtb rd rs⟩
  | .sxth rd rs => ⟨none, .sxth rd rs⟩
  | .sxthIfT pu rd rs => ⟨some (.ifT pu), .sxth rd rs⟩
  | .sxthIfF pu rd rs => ⟨some (.ifF pu), .sxth rd rs⟩
  | .sxthIfTnew pu rd rs => ⟨some (.ifTnew pu), .sxth rd rs⟩
  | .sxthIfFnew pu rd rs => ⟨some (.ifFnew pu), .sxth rd rs⟩
  | .zxtb rd rs => ⟨none, .zxtb rd rs⟩
  | .zxtbIfT pu rd rs => ⟨some (.ifT pu), .zxtb rd rs⟩
  | .zxtbIfF pu rd rs => ⟨some (.ifF pu), .zxtb rd rs⟩
  | .zxtbIfTnew pu rd rs => ⟨some (.ifTnew pu), .zxtb rd rs⟩
  | .zxtbIfFnew pu rd rs => ⟨some (.ifFnew pu), .zxtb rd rs⟩
  | .zxth rd rs => ⟨none, .zxth rd rs⟩
  | .zxthIfT pu rd rs => ⟨some (.ifT pu), .zxth rd rs⟩
  | .zxthIfF pu rd rs => ⟨some (.ifF pu), .zxth rd rs⟩
  | .zxthIfTnew pu rd rs => ⟨some (.ifTnew pu), .zxth rd rs⟩
  | .zxthIfFnew pu rd rs => ⟨some (.ifFnew pu), .zxth rd rs⟩
  | .tfr rd rs => ⟨none, .tfr rd rs⟩
  | .tfrIfT pu rd rs => ⟨some (.ifT pu), .tfr rd rs⟩
  | .tfrIfF pu rd rs => ⟨some (.ifF pu), .tfr rd rs⟩
  | .tfrIfTnew pu rd rs => ⟨some (.ifTnew pu), .tfr rd rs⟩
  | .tfrIfFnew pu rd rs => ⟨some (.ifFnew pu), .tfr rd rs⟩
  | .combine rdd rs rt => ⟨none, .combine rdd rs rt⟩
  | .combineIfT pu rdd rs rt => ⟨some (.ifT pu), .combine rdd rs rt⟩
  | .combineIfF pu rdd rs rt => ⟨some (.ifF pu), .combine rdd rs rt⟩
  | .combineIfTnew pu rdd rs rt => ⟨some (.ifTnew pu), .combine rdd rs rt⟩
  | .combineIfFnew pu rdd rs rt => ⟨some (.ifFnew pu), .combine rdd rs rt⟩
  | .tfri rd imm => ⟨none, .tfri rd imm⟩
  | .tfriIfT pu rd imm => ⟨some (.ifT pu), .tfri rd imm⟩
  | .tfriIfF pu rd imm => ⟨some (.ifF pu), .tfri rd imm⟩
  | .tfriIfTnew pu rd imm => ⟨some (.ifTnew pu), .tfri rd imm⟩
  | .tfriIfFnew pu rd imm => ⟨some (.ifFnew pu), .tfri rd imm⟩
  | .deallocReturn => ⟨none, .deallocReturn⟩
  | .deallocReturnIfT pu => ⟨some (.ifT pu), .deallocReturn⟩
  | .deallocReturnIfF pu => ⟨some (.ifF pu), .deallocReturn⟩
  | .deallocReturnIfTnew pu => ⟨some (.ifTnew pu), .deallocReturn⟩
  | .deallocReturnIfFnew pu => ⟨some (.ifFnew pu), .deallocReturn⟩
  | .muxRr rd ps rs rt => ⟨none, .muxRr rd ps rs rt⟩
  | .vcmpbEq pd rss rtt => ⟨none, .vcmpbEq pd rss rtt⟩
  | .vcmphEq pd rss rtt => ⟨none, .vcmphEq pd rss rtt⟩
  | .vcmpwEq pd rss rtt => ⟨none, .vcmpwEq pd rss rtt⟩
  | .vcmpbGt pd rss rtt => ⟨none, .vcmpbGt pd rss rtt⟩
  | .vcmpbGtu pd rss rtt => ⟨none, .vcmpbGtu pd rss rtt⟩
  | .vcmphGt pd rss rtt => ⟨none, .vcmphGt pd rss rtt⟩
  | .vcmphGtu pd rss rtt => ⟨none, .vcmphGtu pd rss rtt⟩
  | .vcmpwGt pd rss rtt => ⟨none, .vcmpwGt pd rss rtt⟩
  | .vcmpwGtu pd rss rtt => ⟨none, .vcmpwGtu pd rss rtt⟩
  | .vmux rdd ps rss rtt => ⟨none, .vmux rdd ps rss rtt⟩

/-- The guard of an instruction, if it has one. -/
def Instr.guard (i : Instr) : Option Guard := i.line.guard

/-- The operation of an instruction. -/
def Instr.op (i : Instr) : Operation := i.line.op

/-- The predicate register of a guard. -/
def Guard.reg : Guard → PReg
  | .ifT pu => pu
  | .ifF pu => pu
  | .ifTnew pu => pu
  | .ifFnew pu => pu

/-- The predicate register that a guard reads in its `.new` form (R310). -/
def Guard.newReg : Guard → Option PReg
  | .ifT _ => none
  | .ifF _ => none
  | .ifTnew pu => some pu
  | .ifFnew pu => some pu

end Sys2Proof
end

