-- ==== Sys2Proof/Machine/Lexer.lean ====
section
/-!
DEFINITION. The lexical level of the assembly syntax (`spec/30_encoding.md` rules R52, R53, R54, R57, R60): the bytes
of an instruction line cut into tokens, and the bytes of a token. Bytes are ASCII. The layout freedoms that the
spec leaves unsaid (which bytes are white space, what ends a word) are entry 2.
-/

namespace Sys2Proof.Lexer

/-- The bytes of an ASCII string. -/
def ascii (s : String) : Text := s.toList.map fun c => BitVec.ofNat 8 c.toNat

/-- The words of the syntax that are not operands: mnemonics, `if`, and the hinted jumps (R52, R57). -/
inductive Kw where
  | ifWord | jumpT | jumpNT | cmpbEq | cmphEq | cmpEq | sfcmpEq | dfcmpEq | cmpbGt | cmphGt | cmpGt | sfcmpGt
  | dfcmpGt | cmpbGtu | cmphGtu | cmpGtu | cmpGe | sfcmpGe | dfcmpGe | cmpGeu | cmpLt | cmpLtu | sfcmpUo
  | dfcmpUo | sfclass | dfclass | tstbit | bitsclr | bitsset | memwLocked | memdLocked | boundscheck
  | tlbmatch | andWord | orWord | notWord | xorWord | any8 | all8 | jump | call | jumpr | callr | memw | memd
  | memb | memub | memh | memuh | add | sub | aslh | asrh | sxtb | sxth | zxtb | zxth | combine
  | deallocReturn | mux | vcmpbEq | vcmphEq | vcmpwEq | vcmpbGt | vcmpbGtu | vcmphGt | vcmphGtu | vcmpwGt
  | vcmpwGtu | vmux
  deriving DecidableEq, Repr

/-- How each word is spelt, byte by byte (`Sys2Proof/Tests/Slice0.lean` compares each with its characters). -/
def Kw.text : Kw → Text
  | .ifWord => [105, 102]  -- if
  | .jumpT => [106, 117, 109, 112, 58, 84]  -- jump:T
  | .jumpNT => [106, 117, 109, 112, 58, 78, 84]  -- jump:NT
  | .cmpbEq => [99, 109, 112, 98, 46, 101, 113]  -- cmpb.eq
  | .cmphEq => [99, 109, 112, 104, 46, 101, 113]  -- cmph.eq
  | .cmpEq => [99, 109, 112, 46, 101, 113]  -- cmp.eq
  | .sfcmpEq => [115, 102, 99, 109, 112, 46, 101, 113]  -- sfcmp.eq
  | .dfcmpEq => [100, 102, 99, 109, 112, 46, 101, 113]  -- dfcmp.eq
  | .cmpbGt => [99, 109, 112, 98, 46, 103, 116]  -- cmpb.gt
  | .cmphGt => [99, 109, 112, 104, 46, 103, 116]  -- cmph.gt
  | .cmpGt => [99, 109, 112, 46, 103, 116]  -- cmp.gt
  | .sfcmpGt => [115, 102, 99, 109, 112, 46, 103, 116]  -- sfcmp.gt
  | .dfcmpGt => [100, 102, 99, 109, 112, 46, 103, 116]  -- dfcmp.gt
  | .cmpbGtu => [99, 109, 112, 98, 46, 103, 116, 117]  -- cmpb.gtu
  | .cmphGtu => [99, 109, 112, 104, 46, 103, 116, 117]  -- cmph.gtu
  | .cmpGtu => [99, 109, 112, 46, 103, 116, 117]  -- cmp.gtu
  | .cmpGe => [99, 109, 112, 46, 103, 101]  -- cmp.ge
  | .sfcmpGe => [115, 102, 99, 109, 112, 46, 103, 101]  -- sfcmp.ge
  | .dfcmpGe => [100, 102, 99, 109, 112, 46, 103, 101]  -- dfcmp.ge
  | .cmpGeu => [99, 109, 112, 46, 103, 101, 117]  -- cmp.geu
  | .cmpLt => [99, 109, 112, 46, 108, 116]  -- cmp.lt
  | .cmpLtu => [99, 109, 112, 46, 108, 116, 117]  -- cmp.ltu
  | .sfcmpUo => [115, 102, 99, 109, 112, 46, 117, 111]  -- sfcmp.uo
  | .dfcmpUo => [100, 102, 99, 109, 112, 46, 117, 111]  -- dfcmp.uo
  | .sfclass => [115, 102, 99, 108, 97, 115, 115]  -- sfclass
  | .dfclass => [100, 102, 99, 108, 97, 115, 115]  -- dfclass
  | .tstbit => [116, 115, 116, 98, 105, 116]  -- tstbit
  | .bitsclr => [98, 105, 116, 115, 99, 108, 114]  -- bitsclr
  | .bitsset => [98, 105, 116, 115, 115, 101, 116]  -- bitsset
  | .memwLocked => [109, 101, 109, 119, 95, 108, 111, 99, 107, 101, 100]  -- memw_locked
  | .memdLocked => [109, 101, 109, 100, 95, 108, 111, 99, 107, 101, 100]  -- memd_locked
  | .boundscheck => [98, 111, 117, 110, 100, 115, 99, 104, 101, 99, 107]  -- boundscheck
  | .tlbmatch => [116, 108, 98, 109, 97, 116, 99, 104]  -- tlbmatch
  | .andWord => [97, 110, 100]  -- and
  | .orWord => [111, 114]  -- or
  | .notWord => [110, 111, 116]  -- not
  | .xorWord => [120, 111, 114]  -- xor
  | .any8 => [97, 110, 121, 56]  -- any8
  | .all8 => [97, 108, 108, 56]  -- all8
  | .jump => [106, 117, 109, 112]  -- jump
  | .call => [99, 97, 108, 108]  -- call
  | .jumpr => [106, 117, 109, 112, 114]  -- jumpr
  | .callr => [99, 97, 108, 108, 114]  -- callr
  | .memw => [109, 101, 109, 119]  -- memw
  | .memd => [109, 101, 109, 100]  -- memd
  | .memb => [109, 101, 109, 98]  -- memb
  | .memub => [109, 101, 109, 117, 98]  -- memub
  | .memh => [109, 101, 109, 104]  -- memh
  | .memuh => [109, 101, 109, 117, 104]  -- memuh
  | .add => [97, 100, 100]  -- add
  | .sub => [115, 117, 98]  -- sub
  | .aslh => [97, 115, 108, 104]  -- aslh
  | .asrh => [97, 115, 114, 104]  -- asrh
  | .sxtb => [115, 120, 116, 98]  -- sxtb
  | .sxth => [115, 120, 116, 104]  -- sxth
  | .zxtb => [122, 120, 116, 98]  -- zxtb
  | .zxth => [122, 120, 116, 104]  -- zxth
  | .combine => [99, 111, 109, 98, 105, 110, 101]  -- combine
  | .deallocReturn => [100, 101, 97, 108, 108, 111, 99, 95, 114, 101, 116, 117, 114, 110]  -- dealloc_return
  | .mux => [109, 117, 120]  -- mux
  | .vcmpbEq => [118, 99, 109, 112, 98, 46, 101, 113]  -- vcmpb.eq
  | .vcmphEq => [118, 99, 109, 112, 104, 46, 101, 113]  -- vcmph.eq
  | .vcmpwEq => [118, 99, 109, 112, 119, 46, 101, 113]  -- vcmpw.eq
  | .vcmpbGt => [118, 99, 109, 112, 98, 46, 103, 116]  -- vcmpb.gt
  | .vcmpbGtu => [118, 99, 109, 112, 98, 46, 103, 116, 117]  -- vcmpb.gtu
  | .vcmphGt => [118, 99, 109, 112, 104, 46, 103, 116]  -- vcmph.gt
  | .vcmphGtu => [118, 99, 109, 112, 104, 46, 103, 116, 117]  -- vcmph.gtu
  | .vcmpwGt => [118, 99, 109, 112, 119, 46, 103, 116]  -- vcmpw.gt
  | .vcmpwGtu => [118, 99, 109, 112, 119, 46, 103, 116, 117]  -- vcmpw.gtu
  | .vmux => [118, 109, 117, 120]  -- vmux

/-- Every word of the syntax. -/
def Kw.all : List Kw :=
  [.ifWord, .jumpT, .jumpNT, .cmpbEq, .cmphEq, .cmpEq, .sfcmpEq, .dfcmpEq, .cmpbGt, .cmphGt, .cmpGt,
   .sfcmpGt, .dfcmpGt, .cmpbGtu, .cmphGtu, .cmpGtu, .cmpGe, .sfcmpGe, .dfcmpGe, .cmpGeu, .cmpLt, .cmpLtu,
   .sfcmpUo, .dfcmpUo, .sfclass, .dfclass, .tstbit, .bitsclr, .bitsset, .memwLocked, .memdLocked,
   .boundscheck, .tlbmatch, .andWord, .orWord, .notWord, .xorWord, .any8, .all8, .jump, .call, .jumpr,
   .callr, .memw, .memd, .memb, .memub, .memh, .memuh, .add, .sub, .aslh, .asrh, .sxtb, .sxth, .zxtb, .zxth,
   .combine, .deallocReturn, .mux, .vcmpbEq, .vcmphEq, .vcmpwEq, .vcmpbGt, .vcmpbGtu, .vcmphGt, .vcmphGtu,
   .vcmpwGt, .vcmpwGtu, .vmux]

/-- The tokens of an instruction line. -/
inductive Token where
  /-- `R0` to `R31`. -/
  | reg (r : GReg)
  /-- `R1:0`, `R3:2`, ..., `R31:30`. -/
  | pair (k : PairReg)
  /-- `P0` to `P3`. -/
  | pred (p : PReg)
  /-- `P0.new` to `P3.new`. -/
  | newPred (p : PReg)
  /-- `P3:0`. -/
  | quad
  /-- `C5:4`. -/
  | ctl
  /-- A mnemonic or `if`. -/
  | kw (k : Kw)
  /-- `#` and a decimal number with an optional minus sign. -/
  | imm (n : Int)
  /-- The name of a packet. -/
  | label (l : Label)
  | lpar | rpar | comma | eq | bang
  deriving DecidableEq, Repr

/-! ### Bytes -/

/-- `0` to `9`. -/
def isDigit (b : Byte) : Bool := 48 ≤ b.toNat && b.toNat ≤ 57

/-- A letter or `_`. -/
def isLetter (b : Byte) : Bool :=
  (65 ≤ b.toNat && b.toNat ≤ 90) || (97 ≤ b.toNat && b.toNat ≤ 122) || b.toNat == 95

/-- Blank, tab, line feed, carriage return ("White space is free", R52). -/
def isSpace (b : Byte) : Bool := b.toNat == 32 || b.toNat == 9 || b.toNat == 10 || b.toNat == 13

/-- The bytes that words are made of: letters, digits, `_`, and the `.`, `:`, `#` and `-` that stand inside
mnemonics, register names and numbers. -/
def isWordByte (b : Byte) : Bool :=
  isLetter b || isDigit b || b.toNat == 46 || b.toNat == 58 || b.toNat == 35 || b.toNat == 45

/-- The tokens of one byte. -/
def punctuation (b : Byte) : Option Token :=
  if b.toNat = 40 then some .lpar
  else if b.toNat = 41 then some .rpar
  else if b.toNat = 44 then some .comma
  else if b.toNat = 61 then some .eq
  else if b.toNat = 33 then some .bang
  else none

/-! ### Numbers -/

/-- The byte of a decimal digit. -/
def digitByte (d : Nat) : Byte := BitVec.ofNat 8 (48 + d)

/-- The decimal digits of `n` put before `acc`; the first argument bounds the number of digits. -/
def decimalGo : Nat → Nat → Text → Text
  | 0, _, acc => acc
  | fuel + 1, n, acc =>
    if n < 10 then digitByte n :: acc else decimalGo fuel (n / 10) (digitByte (n % 10) :: acc)

/-- `n` in decimal. -/
def decimal (n : Nat) : Text := decimalGo (n + 1) n []

/-- The number that decimal digits stand for, after the digits read so far gave `n`. -/
def readDecimalGo (n : Nat) : Text → Option Nat
  | [] => some n
  | b :: bs => if isDigit b then readDecimalGo (10 * n + (b.toNat - 48)) bs else none

/-- The number that a word of decimal digits stands for. -/
def readDecimal : Text → Option Nat
  | [] => none
  | b :: bs => readDecimalGo 0 (b :: bs)

/-- The value of a hexadecimal digit. -/
def hexDigit (b : Byte) : Option Nat :=
  if isDigit b then some (b.toNat - 48)
  else if 65 ≤ b.toNat ∧ b.toNat ≤ 70 then some (b.toNat - 55)
  else if 97 ≤ b.toNat ∧ b.toNat ≤ 102 then some (b.toNat - 87)
  else none

/-- The number that hexadecimal digits stand for, after the digits read so far gave `n`. -/
def readHexGo (n : Nat) : Text → Option Nat
  | [] => some n
  | b :: bs =>
    match hexDigit b with
    | some d => readHexGo (16 * n + d) bs
    | none => none

/-- The number that `0x` and hexadecimal digits stand for, as the example of R140 writes one. -/
def readHex : Text → Option Nat
  | z :: x :: b :: bs => if z.toNat = 48 ∧ x.toNat = 120 then readHexGo 0 (b :: bs) else none
  | _ => none

/-- The number that a word stands for: decimal digits (R52), or `0x` and hexadecimal ones (entry 2). -/
def readNumber (bs : Text) : Option Nat := (readDecimal bs).or (readHex bs)

/-- `#` and a decimal number with an optional minus sign (R52). -/
def immediateText (n : Int) : Text :=
  if n < 0 then 35#8 :: 45#8 :: decimal n.natAbs else 35#8 :: decimal n.natAbs

/-- The number after `#`. -/
def readImmediate : Text → Option Int
  | h :: m :: bs =>
    if h.toNat = 35 then
      if m.toNat = 45 then (readNumber bs).map fun n => -(n : Int) else (readNumber (m :: bs)).map fun n => (n : Int)
    else none
  | _ => none

/-! ### Words -/

/-- `R0` to `R31`. -/
def regText (r : GReg) : Text := 82#8 :: decimal r.val

/-- `R1:0` to `R31:30`, higher number first (R11, R52). -/
def pairText (k : PairReg) : Text := 82#8 :: decimal (2 * k.val + 1) ++ 58#8 :: decimal (2 * k.val)

/-- `P0` to `P3`. -/
def predText (p : PReg) : Text := 80#8 :: decimal p.val

/-- `P0.new` to `P3.new` (R310). -/
def newPredText (p : PReg) : Text := predText p ++ [46, 110, 101, 119]

/-- `P3:0` (R17, R52). -/
def quadText : Text := [80, 51, 58, 48]

/-- `C5:4` (R17, R52). -/
def ctlText : Text := [67, 53, 58, 52]

/-- A name: letters, digits and `_`, not beginning with a digit (R60). -/
def isName : Text → Bool
  | [] => false
  | b :: bs => isLetter b && bs.all fun c => isLetter c || isDigit c

/-- The token of a word that begins with `R`: a register or a pair. -/
def registerToken (w : Text) : Option Token :=
  match (List.finRange 32).find? fun r => regText r == w with
  | some r => some (.reg r)
  | none => ((List.finRange 16).find? fun k => pairText k == w).map .pair

/-- The token of a word that begins with `P`: a predicate register, its `.new` form, or the quadruple. -/
def predicateToken (w : Text) : Option Token :=
  match (List.finRange 4).find? fun p => predText p == w with
  | some p => some (.pred p)
  | none =>
    match (List.finRange 4).find? fun p => newPredText p == w with
    | some p => some (.newPred p)
    | none => if w = quadText then some .quad else none

/-- The token of a word that is an operand, by its first byte: `R`, `P`, `C` or `#`. -/
def operandToken (w : Text) : Option Token :=
  match w with
  | [] => none
  | b :: _ =>
    if b.toNat = 82 then registerToken w
    else if b.toNat = 80 then predicateToken w
    else if b.toNat = 67 then (if w = ctlText then some .ctl else none)
    else if b.toNat = 35 then (readImmediate w).map .imm
    else none

/-- The token that a whole word is: an operand, a keyword, else a label if it is a name. -/
def wordToken (w : Text) : Option Token :=
  match operandToken w with
  | some t => some t
  | none =>
    match Kw.all.find? fun k => k.text == w with
    | some k => some (.kw k)
    | none => if isName w then some (.label w) else none

/-- A name that no word of the syntax hides: what a label must be (R60). -/
def isLabel (l : Label) : Bool := isName l && wordToken l == some (.label l)

/-! ### Lines -/

/-- Put the word read so far, if any, before the tokens that follow it. -/
def flush (word : Text) (rest : List Token) : Option (List Token) :=
  if word = [] then some rest else (wordToken word).map fun t => t :: rest

/-- The tokens of a text, `word` being the bytes of the word that is being read. A comment runs from `//` to the end
(R52). No answer means that the text is no sequence of tokens. -/
def tokensFrom (word : Text) : Text → Option (List Token)
  | [] => flush word []
  | b :: bs =>
    if isWordByte b then tokensFrom (word ++ [b]) bs
    else if isSpace b then (tokensFrom [] bs).bind (flush word)
    else if b.toNat = 47 then (if bs.head?.map BitVec.toNat = some 47 then flush word [] else none)
    else
      match punctuation b with
      | some t => (tokensFrom [] bs).bind fun rest => flush word (t :: rest)
      | none => none

/-- The tokens of a line. -/
def tokens (line : Text) : Option (List Token) := tokensFrom [] line

/-- How a token is spelt. -/
def Token.text : Token → Text
  | .reg r => regText r
  | .pair k => pairText k
  | .pred p => predText p
  | .newPred p => newPredText p
  | .quad => quadText
  | .ctl => ctlText
  | .kw k => k.text
  | .imm n => immediateText n
  | .label l => l
  | .lpar => [40]
  | .rpar => [41]
  | .comma => [44]
  | .eq => [61]
  | .bang => [33]

/-- A line spelt out, a blank after each token. -/
def spell : List Token → Text
  | [] => []
  | t :: ts => t.text ++ 32#8 :: spell ts

end Sys2Proof.Lexer
end

