-- ==== Sys2Proof/Machine/Immediates.lean ====
section
/-!
DEFINITION. The immediate and label operands of each operation, and the ranges of `spec/30_encoding.md` rule R53
(with the widths of R220 and R235, entry 24).
-/

namespace Sys2Proof

/-- The kinds of immediate: `#sN` and `#uN` (R8). -/
inductive ImmKind where
  | s (bits : Nat)
  | u (bits : Nat)
  deriving DecidableEq, Repr

/-- The least number of a kind (R8). -/
def ImmKind.least : ImmKind → Int
  | .s n => -(2 ^ (n - 1))
  | .u _ => 0

/-- The greatest number of a kind (R8). -/
def ImmKind.greatest : ImmKind → Int
  | .s n => 2 ^ (n - 1) - 1
  | .u n => 2 ^ n - 1

/-- The number lies in the range of the kind. -/
def ImmKind.holds (k : ImmKind) (n : Int) : Bool := decide (k.least ≤ n) && decide (n ≤ k.greatest)

/-- The immediate of an operation and its kind (R53); `guarded` says whether the line has a guard, which decides the
width for `add` and for the transfer immediate (R220, R235). -/
def Operation.immediate (guarded : Bool) : Operation → Option (Int × ImmKind)
  | .cmpbEqRr _ _ _ => none
  | .cmpbEqRi _ _ imm => some (imm, .u 8)
  | .cmphEqRr _ _ _ => none
  | .cmphEqRi _ _ imm => some (imm, .s 8)
  | .cmpEqRr _ _ _ => none
  | .ncmpEqRr _ _ _ => none
  | .cmpEqRi _ _ imm => some (imm, .s 10)
  | .ncmpEqRi _ _ imm => some (imm, .s 10)
  | .cmpEqPp _ _ _ => none
  | .sfcmpEq _ _ _ => none
  | .dfcmpEq _ _ _ => none
  | .cmpbGtRr _ _ _ => none
  | .cmpbGtRi _ _ imm => some (imm, .s 8)
  | .cmphGtRr _ _ _ => none
  | .cmphGtRi _ _ imm => some (imm, .s 8)
  | .cmpGtRr _ _ _ => none
  | .ncmpGtRr _ _ _ => none
  | .cmpGtRi _ _ imm => some (imm, .s 10)
  | .ncmpGtRi _ _ imm => some (imm, .s 10)
  | .cmpGtPp _ _ _ => none
  | .sfcmpGt _ _ _ => none
  | .dfcmpGt _ _ _ => none
  | .cmpbGtuRr _ _ _ => none
  | .cmpbGtuRi _ _ imm => some (imm, .u 7)
  | .cmphGtuRr _ _ _ => none
  | .cmphGtuRi _ _ imm => some (imm, .u 7)
  | .cmpGtuRr _ _ _ => none
  | .ncmpGtuRr _ _ _ => none
  | .cmpGtuRi _ _ imm => some (imm, .u 9)
  | .ncmpGtuRi _ _ imm => some (imm, .u 9)
  | .cmpGtuPp _ _ _ => none
  | .cmpGeRi _ _ imm => some (imm, .s 8)
  | .sfcmpGe _ _ _ => none
  | .dfcmpGe _ _ _ => none
  | .cmpGeuRi _ _ imm => some (imm, .u 8)
  | .cmpLtRr _ _ _ => none
  | .cmpLtuRr _ _ _ => none
  | .sfcmpUo _ _ _ => none
  | .dfcmpUo _ _ _ => none
  | .sfclass _ _ imm => some (imm, .u 5)
  | .dfclass _ _ imm => some (imm, .u 5)
  | .tstbitRr _ _ _ => none
  | .ntstbitRr _ _ _ => none
  | .tstbitRi _ _ imm => some (imm, .u 5)
  | .ntstbitRi _ _ imm => some (imm, .u 5)
  | .bitsclrRr _ _ _ => none
  | .nbitsclrRr _ _ _ => none
  | .bitsclrRi _ _ imm => some (imm, .u 6)
  | .nbitsclrRi _ _ imm => some (imm, .u 6)
  | .bitssetRr _ _ _ => none
  | .nbitssetRr _ _ _ => none
  | .memwLockedSt _ _ _ => none
  | .memdLockedSt _ _ _ => none
  | .boundscheck _ _ _ => none
  | .tlbmatch _ _ _ => none
  | .cmpEqToR _ _ _ => none
  | .tfrPp _ _ => none
  | .tfrPr _ _ => none
  | .tfrRp _ _ => none
  | .andPp _ _ _ => none
  | .andPpn _ _ _ => none
  | .orPp _ _ _ => none
  | .orPpn _ _ _ => none
  | .andAndPpp _ _ _ _ => none
  | .andAndPppn _ _ _ _ => none
  | .andOrPpp _ _ _ _ => none
  | .andOrPppn _ _ _ _ => none
  | .orAndPpp _ _ _ _ => none
  | .orAndPppn _ _ _ _ => none
  | .orOrPpp _ _ _ _ => none
  | .orOrPppn _ _ _ _ => none
  | .notP _ _ => none
  | .xorPp _ _ _ => none
  | .any8 _ _ => none
  | .all8 _ _ => none
  | .tfrP4r _ => none
  | .tfrRp4 _ => none
  | .tfrC54 _ => none
  | .jump _ => none
  | .call _ => none
  | .jumpr _ => none
  | .callr _ => none
  | .memwLd _ _ => none
  | .memdLd _ _ => none
  | .membLd _ _ => none
  | .memubLd _ _ => none
  | .memhLd _ _ => none
  | .memuhLd _ _ => none
  | .memwSt _ _ => none
  | .memdSt _ _ => none
  | .membSt _ _ => none
  | .memhSt _ _ => none
  | .addRr _ _ _ => none
  | .addRi _ _ imm => some (imm, if guarded then .s 8 else .s 16)
  | .subRr _ _ _ => none
  | .andRr _ _ _ => none
  | .orRr _ _ _ => none
  | .xorRr _ _ _ => none
  | .aslh _ _ => none
  | .asrh _ _ => none
  | .sxtb _ _ => none
  | .sxth _ _ => none
  | .zxtb _ _ => none
  | .zxth _ _ => none
  | .tfr _ _ => none
  | .combine _ _ _ => none
  | .tfri _ imm => some (imm, if guarded then .s 12 else .s 16)
  | .deallocReturn => none
  | .muxRr _ _ _ _ => none
  | .vcmpbEq _ _ _ => none
  | .vcmphEq _ _ _ => none
  | .vcmpwEq _ _ _ => none
  | .vcmpbGt _ _ _ => none
  | .vcmpbGtu _ _ _ => none
  | .vcmphGt _ _ _ => none
  | .vcmphGtu _ _ _ => none
  | .vcmpwGt _ _ _ => none
  | .vcmpwGtu _ _ _ => none
  | .vmux _ _ _ _ => none

/-- The label that an operation names (R60). -/
def Operation.label : Operation → Option Label
  | .cmpbEqRr _ _ _ => none
  | .cmpbEqRi _ _ _ => none
  | .cmphEqRr _ _ _ => none
  | .cmphEqRi _ _ _ => none
  | .cmpEqRr _ _ _ => none
  | .ncmpEqRr _ _ _ => none
  | .cmpEqRi _ _ _ => none
  | .ncmpEqRi _ _ _ => none
  | .cmpEqPp _ _ _ => none
  | .sfcmpEq _ _ _ => none
  | .dfcmpEq _ _ _ => none
  | .cmpbGtRr _ _ _ => none
  | .cmpbGtRi _ _ _ => none
  | .cmphGtRr _ _ _ => none
  | .cmphGtRi _ _ _ => none
  | .cmpGtRr _ _ _ => none
  | .ncmpGtRr _ _ _ => none
  | .cmpGtRi _ _ _ => none
  | .ncmpGtRi _ _ _ => none
  | .cmpGtPp _ _ _ => none
  | .sfcmpGt _ _ _ => none
  | .dfcmpGt _ _ _ => none
  | .cmpbGtuRr _ _ _ => none
  | .cmpbGtuRi _ _ _ => none
  | .cmphGtuRr _ _ _ => none
  | .cmphGtuRi _ _ _ => none
  | .cmpGtuRr _ _ _ => none
  | .ncmpGtuRr _ _ _ => none
  | .cmpGtuRi _ _ _ => none
  | .ncmpGtuRi _ _ _ => none
  | .cmpGtuPp _ _ _ => none
  | .cmpGeRi _ _ _ => none
  | .sfcmpGe _ _ _ => none
  | .dfcmpGe _ _ _ => none
  | .cmpGeuRi _ _ _ => none
  | .cmpLtRr _ _ _ => none
  | .cmpLtuRr _ _ _ => none
  | .sfcmpUo _ _ _ => none
  | .dfcmpUo _ _ _ => none
  | .sfclass _ _ _ => none
  | .dfclass _ _ _ => none
  | .tstbitRr _ _ _ => none
  | .ntstbitRr _ _ _ => none
  | .tstbitRi _ _ _ => none
  | .ntstbitRi _ _ _ => none
  | .bitsclrRr _ _ _ => none
  | .nbitsclrRr _ _ _ => none
  | .bitsclrRi _ _ _ => none
  | .nbitsclrRi _ _ _ => none
  | .bitssetRr _ _ _ => none
  | .nbitssetRr _ _ _ => none
  | .memwLockedSt _ _ _ => none
  | .memdLockedSt _ _ _ => none
  | .boundscheck _ _ _ => none
  | .tlbmatch _ _ _ => none
  | .cmpEqToR _ _ _ => none
  | .tfrPp _ _ => none
  | .tfrPr _ _ => none
  | .tfrRp _ _ => none
  | .andPp _ _ _ => none
  | .andPpn _ _ _ => none
  | .orPp _ _ _ => none
  | .orPpn _ _ _ => none
  | .andAndPpp _ _ _ _ => none
  | .andAndPppn _ _ _ _ => none
  | .andOrPpp _ _ _ _ => none
  | .andOrPppn _ _ _ _ => none
  | .orAndPpp _ _ _ _ => none
  | .orAndPppn _ _ _ _ => none
  | .orOrPpp _ _ _ _ => none
  | .orOrPppn _ _ _ _ => none
  | .notP _ _ => none
  | .xorPp _ _ _ => none
  | .any8 _ _ => none
  | .all8 _ _ => none
  | .tfrP4r _ => none
  | .tfrRp4 _ => none
  | .tfrC54 _ => none
  | .jump lbl => some lbl
  | .call lbl => some lbl
  | .jumpr _ => none
  | .callr _ => none
  | .memwLd _ _ => none
  | .memdLd _ _ => none
  | .membLd _ _ => none
  | .memubLd _ _ => none
  | .memhLd _ _ => none
  | .memuhLd _ _ => none
  | .memwSt _ _ => none
  | .memdSt _ _ => none
  | .membSt _ _ => none
  | .memhSt _ _ => none
  | .addRr _ _ _ => none
  | .addRi _ _ _ => none
  | .subRr _ _ _ => none
  | .andRr _ _ _ => none
  | .orRr _ _ _ => none
  | .xorRr _ _ _ => none
  | .aslh _ _ => none
  | .asrh _ _ => none
  | .sxtb _ _ => none
  | .sxth _ _ => none
  | .zxtb _ _ => none
  | .zxth _ _ => none
  | .tfr _ _ => none
  | .combine _ _ _ => none
  | .tfri _ _ => none
  | .deallocReturn => none
  | .muxRr _ _ _ _ => none
  | .vcmpbEq _ _ _ => none
  | .vcmphEq _ _ _ => none
  | .vcmpwEq _ _ _ => none
  | .vcmpbGt _ _ _ => none
  | .vcmpbGtu _ _ _ => none
  | .vcmphGt _ _ _ => none
  | .vcmphGtu _ _ _ => none
  | .vcmpwGt _ _ _ => none
  | .vcmpwGtu _ _ _ => none
  | .vmux _ _ _ _ => none

end Sys2Proof
end

