-- ==== Sys2Proof/WellFormed.lean ====
section
/-!
DEFINITION. Which terms of the syntax are instructions: an immediate lies in the range of its kind
(`spec/30_encoding.md` rule R53) and a label is a name (R60). Registers are in range by their types.
-/

namespace Sys2Proof

/-- The immediate, if there is one, lies in its range (R53). -/
def Instr.immediateOk (i : Instr) : Bool :=
  match i.op.immediate i.guard.isSome with
  | some (n, k) => k.holds n
  | none => true

/-- The label, if there is one, is a name that no other word of the syntax hides (R60). -/
def Instr.labelOk (i : Instr) : Bool :=
  match i.op.label with
  | some l => Lexer.isLabel l
  | none => true

/-- The term is an instruction. -/
def Instr.wellFormed (i : Instr) : Bool := i.immediateOk && i.labelOk

end Sys2Proof
end

