-- ==== Sys2Proof/Decode.lean ====
section
/-!
DEFINITION. From text to instructions and back (`spec/30_encoding.md` rules R50, R52 to R54, R57, R60). The spec has no
binary encoding; the encoding of an instruction is its text (entry 1). `decode` is total on any bytes and rejects by
name; `encode` writes the text of an instruction.
-/

namespace Sys2Proof

open Lexer

/-- Why a text is no instruction. -/
inductive DecodeError where
  /-- The bytes are not a sequence of tokens of the syntax (R52): an unknown byte, or a word that is no keyword,
  register, immediate or name. -/
  | notTokens
  /-- The tokens are no instruction of the spec's table (R52, R55; R324 "any instruction with no rule in this spec"). -/
  | noSuchInstruction
  deriving DecidableEq, Repr

/-! ### Operations -/

/-- The tokens of an operation, as its row of the table spells it. -/
def Operation.tokens : Operation → List Token
  | .cmpbEqRr pd rs rt => [.pred pd, .eq, .kw .cmpbEq, .lpar, .reg rs, .comma, .reg rt, .rpar]
  | .cmpbEqRi pd rs imm => [.pred pd, .eq, .kw .cmpbEq, .lpar, .reg rs, .comma, .imm imm, .rpar]
  | .cmphEqRr pd rs rt => [.pred pd, .eq, .kw .cmphEq, .lpar, .reg rs, .comma, .reg rt, .rpar]
  | .cmphEqRi pd rs imm => [.pred pd, .eq, .kw .cmphEq, .lpar, .reg rs, .comma, .imm imm, .rpar]
  | .cmpEqRr pd rs rt => [.pred pd, .eq, .kw .cmpEq, .lpar, .reg rs, .comma, .reg rt, .rpar]
  | .ncmpEqRr pd rs rt => [.pred pd, .eq, .bang, .kw .cmpEq, .lpar, .reg rs, .comma, .reg rt, .rpar]
  | .cmpEqRi pd rs imm => [.pred pd, .eq, .kw .cmpEq, .lpar, .reg rs, .comma, .imm imm, .rpar]
  | .ncmpEqRi pd rs imm => [.pred pd, .eq, .bang, .kw .cmpEq, .lpar, .reg rs, .comma, .imm imm, .rpar]
  | .cmpEqPp pd rss rtt => [.pred pd, .eq, .kw .cmpEq, .lpar, .pair rss, .comma, .pair rtt, .rpar]
  | .sfcmpEq pd rs rt => [.pred pd, .eq, .kw .sfcmpEq, .lpar, .reg rs, .comma, .reg rt, .rpar]
  | .dfcmpEq pd rss rtt => [.pred pd, .eq, .kw .dfcmpEq, .lpar, .pair rss, .comma, .pair rtt, .rpar]
  | .cmpbGtRr pd rs rt => [.pred pd, .eq, .kw .cmpbGt, .lpar, .reg rs, .comma, .reg rt, .rpar]
  | .cmpbGtRi pd rs imm => [.pred pd, .eq, .kw .cmpbGt, .lpar, .reg rs, .comma, .imm imm, .rpar]
  | .cmphGtRr pd rs rt => [.pred pd, .eq, .kw .cmphGt, .lpar, .reg rs, .comma, .reg rt, .rpar]
  | .cmphGtRi pd rs imm => [.pred pd, .eq, .kw .cmphGt, .lpar, .reg rs, .comma, .imm imm, .rpar]
  | .cmpGtRr pd rs rt => [.pred pd, .eq, .kw .cmpGt, .lpar, .reg rs, .comma, .reg rt, .rpar]
  | .ncmpGtRr pd rs rt => [.pred pd, .eq, .bang, .kw .cmpGt, .lpar, .reg rs, .comma, .reg rt, .rpar]
  | .cmpGtRi pd rs imm => [.pred pd, .eq, .kw .cmpGt, .lpar, .reg rs, .comma, .imm imm, .rpar]
  | .ncmpGtRi pd rs imm => [.pred pd, .eq, .bang, .kw .cmpGt, .lpar, .reg rs, .comma, .imm imm, .rpar]
  | .cmpGtPp pd rss rtt => [.pred pd, .eq, .kw .cmpGt, .lpar, .pair rss, .comma, .pair rtt, .rpar]
  | .sfcmpGt pd rs rt => [.pred pd, .eq, .kw .sfcmpGt, .lpar, .reg rs, .comma, .reg rt, .rpar]
  | .dfcmpGt pd rss rtt => [.pred pd, .eq, .kw .dfcmpGt, .lpar, .pair rss, .comma, .pair rtt, .rpar]
  | .cmpbGtuRr pd rs rt => [.pred pd, .eq, .kw .cmpbGtu, .lpar, .reg rs, .comma, .reg rt, .rpar]
  | .cmpbGtuRi pd rs imm => [.pred pd, .eq, .kw .cmpbGtu, .lpar, .reg rs, .comma, .imm imm, .rpar]
  | .cmphGtuRr pd rs rt => [.pred pd, .eq, .kw .cmphGtu, .lpar, .reg rs, .comma, .reg rt, .rpar]
  | .cmphGtuRi pd rs imm => [.pred pd, .eq, .kw .cmphGtu, .lpar, .reg rs, .comma, .imm imm, .rpar]
  | .cmpGtuRr pd rs rt => [.pred pd, .eq, .kw .cmpGtu, .lpar, .reg rs, .comma, .reg rt, .rpar]
  | .ncmpGtuRr pd rs rt => [.pred pd, .eq, .bang, .kw .cmpGtu, .lpar, .reg rs, .comma, .reg rt, .rpar]
  | .cmpGtuRi pd rs imm => [.pred pd, .eq, .kw .cmpGtu, .lpar, .reg rs, .comma, .imm imm, .rpar]
  | .ncmpGtuRi pd rs imm => [.pred pd, .eq, .bang, .kw .cmpGtu, .lpar, .reg rs, .comma, .imm imm, .rpar]
  | .cmpGtuPp pd rss rtt => [.pred pd, .eq, .kw .cmpGtu, .lpar, .pair rss, .comma, .pair rtt, .rpar]
  | .cmpGeRi pd rs imm => [.pred pd, .eq, .kw .cmpGe, .lpar, .reg rs, .comma, .imm imm, .rpar]
  | .sfcmpGe pd rs rt => [.pred pd, .eq, .kw .sfcmpGe, .lpar, .reg rs, .comma, .reg rt, .rpar]
  | .dfcmpGe pd rss rtt => [.pred pd, .eq, .kw .dfcmpGe, .lpar, .pair rss, .comma, .pair rtt, .rpar]
  | .cmpGeuRi pd rs imm => [.pred pd, .eq, .kw .cmpGeu, .lpar, .reg rs, .comma, .imm imm, .rpar]
  | .cmpLtRr pd rs rt => [.pred pd, .eq, .kw .cmpLt, .lpar, .reg rs, .comma, .reg rt, .rpar]
  | .cmpLtuRr pd rs rt => [.pred pd, .eq, .kw .cmpLtu, .lpar, .reg rs, .comma, .reg rt, .rpar]
  | .sfcmpUo pd rs rt => [.pred pd, .eq, .kw .sfcmpUo, .lpar, .reg rs, .comma, .reg rt, .rpar]
  | .dfcmpUo pd rss rtt => [.pred pd, .eq, .kw .dfcmpUo, .lpar, .pair rss, .comma, .pair rtt, .rpar]
  | .sfclass pd rs imm => [.pred pd, .eq, .kw .sfclass, .lpar, .reg rs, .comma, .imm imm, .rpar]
  | .dfclass pd rss imm => [.pred pd, .eq, .kw .dfclass, .lpar, .pair rss, .comma, .imm imm, .rpar]
  | .tstbitRr pd rs rt => [.pred pd, .eq, .kw .tstbit, .lpar, .reg rs, .comma, .reg rt, .rpar]
  | .ntstbitRr pd rs rt => [.pred pd, .eq, .bang, .kw .tstbit, .lpar, .reg rs, .comma, .reg rt, .rpar]
  | .tstbitRi pd rs imm => [.pred pd, .eq, .kw .tstbit, .lpar, .reg rs, .comma, .imm imm, .rpar]
  | .ntstbitRi pd rs imm => [.pred pd, .eq, .bang, .kw .tstbit, .lpar, .reg rs, .comma, .imm imm, .rpar]
  | .bitsclrRr pd rs rt => [.pred pd, .eq, .kw .bitsclr, .lpar, .reg rs, .comma, .reg rt, .rpar]
  | .nbitsclrRr pd rs rt => [.pred pd, .eq, .bang, .kw .bitsclr, .lpar, .reg rs, .comma, .reg rt, .rpar]
  | .bitsclrRi pd rs imm => [.pred pd, .eq, .kw .bitsclr, .lpar, .reg rs, .comma, .imm imm, .rpar]
  | .nbitsclrRi pd rs imm => [.pred pd, .eq, .bang, .kw .bitsclr, .lpar, .reg rs, .comma, .imm imm, .rpar]
  | .bitssetRr pd rs rt => [.pred pd, .eq, .kw .bitsset, .lpar, .reg rs, .comma, .reg rt, .rpar]
  | .nbitssetRr pd rs rt => [.pred pd, .eq, .bang, .kw .bitsset, .lpar, .reg rs, .comma, .reg rt, .rpar]
  | .memwLockedSt rs pd rt => [.kw .memwLocked, .lpar, .reg rs, .comma, .pred pd, .rpar, .eq, .reg rt]
  | .memdLockedSt rs pd rtt => [.kw .memdLocked, .lpar, .reg rs, .comma, .pred pd, .rpar, .eq, .pair rtt]
  | .boundscheck pd rs rtt => [.pred pd, .eq, .kw .boundscheck, .lpar, .reg rs, .comma, .pair rtt, .rpar]
  | .tlbmatch pd rss rt => [.pred pd, .eq, .kw .tlbmatch, .lpar, .pair rss, .comma, .reg rt, .rpar]
  | .cmpEqToR rd rs rt => [.reg rd, .eq, .kw .cmpEq, .lpar, .reg rs, .comma, .reg rt, .rpar]
  | .tfrPp pd ps => [.pred pd, .eq, .pred ps]
  | .tfrPr pd rs => [.pred pd, .eq, .reg rs]
  | .tfrRp rd ps => [.reg rd, .eq, .pred ps]
  | .andPp pd ps pt => [.pred pd, .eq, .kw .andWord, .lpar, .pred ps, .comma, .pred pt, .rpar]
  | .andPpn pd ps pt => [.pred pd, .eq, .kw .andWord, .lpar, .pred ps, .comma, .bang, .pred pt, .rpar]
  | .orPp pd ps pt => [.pred pd, .eq, .kw .orWord, .lpar, .pred ps, .comma, .pred pt, .rpar]
  | .orPpn pd ps pt => [.pred pd, .eq, .kw .orWord, .lpar, .pred ps, .comma, .bang, .pred pt, .rpar]
  | .andAndPpp pd ps pt pu => [.pred pd, .eq, .kw .andWord, .lpar, .pred ps, .comma, .kw .andWord, .lpar, .pred pt, .comma, .pred pu, .rpar, .rpar]
  | .andAndPppn pd ps pt pu => [.pred pd, .eq, .kw .andWord, .lpar, .pred ps, .comma, .kw .andWord, .lpar, .pred pt, .comma, .bang, .pred pu, .rpar, .rpar]
  | .andOrPpp pd ps pt pu => [.pred pd, .eq, .kw .andWord, .lpar, .pred ps, .comma, .kw .orWord, .lpar, .pred pt, .comma, .pred pu, .rpar, .rpar]
  | .andOrPppn pd ps pt pu => [.pred pd, .eq, .kw .andWord, .lpar, .pred ps, .comma, .kw .orWord, .lpar, .pred pt, .comma, .bang, .pred pu, .rpar, .rpar]
  | .orAndPpp pd ps pt pu => [.pred pd, .eq, .kw .orWord, .lpar, .pred ps, .comma, .kw .andWord, .lpar, .pred pt, .comma, .pred pu, .rpar, .rpar]
  | .orAndPppn pd ps pt pu => [.pred pd, .eq, .kw .orWord, .lpar, .pred ps, .comma, .kw .andWord, .lpar, .pred pt, .comma, .bang, .pred pu, .rpar, .rpar]
  | .orOrPpp pd ps pt pu => [.pred pd, .eq, .kw .orWord, .lpar, .pred ps, .comma, .kw .orWord, .lpar, .pred pt, .comma, .pred pu, .rpar, .rpar]
  | .orOrPppn pd ps pt pu => [.pred pd, .eq, .kw .orWord, .lpar, .pred ps, .comma, .kw .orWord, .lpar, .pred pt, .comma, .bang, .pred pu, .rpar, .rpar]
  | .notP pd ps => [.pred pd, .eq, .kw .notWord, .lpar, .pred ps, .rpar]
  | .xorPp pd ps pt => [.pred pd, .eq, .kw .xorWord, .lpar, .pred ps, .comma, .pred pt, .rpar]
  | .any8 pd ps => [.pred pd, .eq, .kw .any8, .lpar, .pred ps, .rpar]
  | .all8 pd ps => [.pred pd, .eq, .kw .all8, .lpar, .pred ps, .rpar]
  | .tfrP4r rs => [.quad, .eq, .reg rs]
  | .tfrRp4 rd => [.reg rd, .eq, .quad]
  | .tfrC54 rss => [.ctl, .eq, .pair rss]
  | .jump lbl => [.kw .jump, .label lbl]
  | .call lbl => [.kw .call, .label lbl]
  | .jumpr rs => [.kw .jumpr, .reg rs]
  | .callr rs => [.kw .callr, .reg rs]
  | .memwLd rd rs => [.reg rd, .eq, .kw .memw, .lpar, .reg rs, .rpar]
  | .memdLd rdd rs => [.pair rdd, .eq, .kw .memd, .lpar, .reg rs, .rpar]
  | .membLd rd rs => [.reg rd, .eq, .kw .memb, .lpar, .reg rs, .rpar]
  | .memubLd rd rs => [.reg rd, .eq, .kw .memub, .lpar, .reg rs, .rpar]
  | .memhLd rd rs => [.reg rd, .eq, .kw .memh, .lpar, .reg rs, .rpar]
  | .memuhLd rd rs => [.reg rd, .eq, .kw .memuh, .lpar, .reg rs, .rpar]
  | .memwSt rs rt => [.kw .memw, .lpar, .reg rs, .rpar, .eq, .reg rt]
  | .memdSt rs rtt => [.kw .memd, .lpar, .reg rs, .rpar, .eq, .pair rtt]
  | .membSt rs rt => [.kw .memb, .lpar, .reg rs, .rpar, .eq, .reg rt]
  | .memhSt rs rt => [.kw .memh, .lpar, .reg rs, .rpar, .eq, .reg rt]
  | .addRr rd rs rt => [.reg rd, .eq, .kw .add, .lpar, .reg rs, .comma, .reg rt, .rpar]
  | .addRi rd rs imm => [.reg rd, .eq, .kw .add, .lpar, .reg rs, .comma, .imm imm, .rpar]
  | .subRr rd rt rs => [.reg rd, .eq, .kw .sub, .lpar, .reg rt, .comma, .reg rs, .rpar]
  | .andRr rd rs rt => [.reg rd, .eq, .kw .andWord, .lpar, .reg rs, .comma, .reg rt, .rpar]
  | .orRr rd rs rt => [.reg rd, .eq, .kw .orWord, .lpar, .reg rs, .comma, .reg rt, .rpar]
  | .xorRr rd rs rt => [.reg rd, .eq, .kw .xorWord, .lpar, .reg rs, .comma, .reg rt, .rpar]
  | .aslh rd rs => [.reg rd, .eq, .kw .aslh, .lpar, .reg rs, .rpar]
  | .asrh rd rs => [.reg rd, .eq, .kw .asrh, .lpar, .reg rs, .rpar]
  | .sxtb rd rs => [.reg rd, .eq, .kw .sxtb, .lpar, .reg rs, .rpar]
  | .sxth rd rs => [.reg rd, .eq, .kw .sxth, .lpar, .reg rs, .rpar]
  | .zxtb rd rs => [.reg rd, .eq, .kw .zxtb, .lpar, .reg rs, .rpar]
  | .zxth rd rs => [.reg rd, .eq, .kw .zxth, .lpar, .reg rs, .rpar]
  | .tfr rd rs => [.reg rd, .eq, .reg rs]
  | .combine rdd rs rt => [.pair rdd, .eq, .kw .combine, .lpar, .reg rs, .comma, .reg rt, .rpar]
  | .tfri rd imm => [.reg rd, .eq, .imm imm]
  | .deallocReturn => [.kw .deallocReturn]
  | .muxRr rd ps rs rt => [.reg rd, .eq, .kw .mux, .lpar, .pred ps, .comma, .reg rs, .comma, .reg rt, .rpar]
  | .vcmpbEq pd rss rtt => [.pred pd, .eq, .kw .vcmpbEq, .lpar, .pair rss, .comma, .pair rtt, .rpar]
  | .vcmphEq pd rss rtt => [.pred pd, .eq, .kw .vcmphEq, .lpar, .pair rss, .comma, .pair rtt, .rpar]
  | .vcmpwEq pd rss rtt => [.pred pd, .eq, .kw .vcmpwEq, .lpar, .pair rss, .comma, .pair rtt, .rpar]
  | .vcmpbGt pd rss rtt => [.pred pd, .eq, .kw .vcmpbGt, .lpar, .pair rss, .comma, .pair rtt, .rpar]
  | .vcmpbGtu pd rss rtt => [.pred pd, .eq, .kw .vcmpbGtu, .lpar, .pair rss, .comma, .pair rtt, .rpar]
  | .vcmphGt pd rss rtt => [.pred pd, .eq, .kw .vcmphGt, .lpar, .pair rss, .comma, .pair rtt, .rpar]
  | .vcmphGtu pd rss rtt => [.pred pd, .eq, .kw .vcmphGtu, .lpar, .pair rss, .comma, .pair rtt, .rpar]
  | .vcmpwGt pd rss rtt => [.pred pd, .eq, .kw .vcmpwGt, .lpar, .pair rss, .comma, .pair rtt, .rpar]
  | .vcmpwGtu pd rss rtt => [.pred pd, .eq, .kw .vcmpwGtu, .lpar, .pair rss, .comma, .pair rtt, .rpar]
  | .vmux rdd ps rss rtt => [.pair rdd, .eq, .kw .vmux, .lpar, .pred ps, .comma, .pair rss, .comma, .pair rtt, .rpar]

/-- The operation `Pd = mnemonic(...)`, from the mnemonic and what stands after its parenthesis. -/
def readPredCall (pd : PReg) : Kw → List Token → Option Operation
  | .cmpbEq, [.reg rs, .comma, .reg rt, .rpar] => some (.cmpbEqRr pd rs rt)
  | .cmpbEq, [.reg rs, .comma, .imm imm, .rpar] => some (.cmpbEqRi pd rs imm)
  | .cmphEq, [.reg rs, .comma, .reg rt, .rpar] => some (.cmphEqRr pd rs rt)
  | .cmphEq, [.reg rs, .comma, .imm imm, .rpar] => some (.cmphEqRi pd rs imm)
  | .cmpEq, [.reg rs, .comma, .reg rt, .rpar] => some (.cmpEqRr pd rs rt)
  | .cmpEq, [.reg rs, .comma, .imm imm, .rpar] => some (.cmpEqRi pd rs imm)
  | .cmpEq, [.pair rss, .comma, .pair rtt, .rpar] => some (.cmpEqPp pd rss rtt)
  | .sfcmpEq, [.reg rs, .comma, .reg rt, .rpar] => some (.sfcmpEq pd rs rt)
  | .dfcmpEq, [.pair rss, .comma, .pair rtt, .rpar] => some (.dfcmpEq pd rss rtt)
  | .cmpbGt, [.reg rs, .comma, .reg rt, .rpar] => some (.cmpbGtRr pd rs rt)
  | .cmpbGt, [.reg rs, .comma, .imm imm, .rpar] => some (.cmpbGtRi pd rs imm)
  | .cmphGt, [.reg rs, .comma, .reg rt, .rpar] => some (.cmphGtRr pd rs rt)
  | .cmphGt, [.reg rs, .comma, .imm imm, .rpar] => some (.cmphGtRi pd rs imm)
  | .cmpGt, [.reg rs, .comma, .reg rt, .rpar] => some (.cmpGtRr pd rs rt)
  | .cmpGt, [.reg rs, .comma, .imm imm, .rpar] => some (.cmpGtRi pd rs imm)
  | .cmpGt, [.pair rss, .comma, .pair rtt, .rpar] => some (.cmpGtPp pd rss rtt)
  | .sfcmpGt, [.reg rs, .comma, .reg rt, .rpar] => some (.sfcmpGt pd rs rt)
  | .dfcmpGt, [.pair rss, .comma, .pair rtt, .rpar] => some (.dfcmpGt pd rss rtt)
  | .cmpbGtu, [.reg rs, .comma, .reg rt, .rpar] => some (.cmpbGtuRr pd rs rt)
  | .cmpbGtu, [.reg rs, .comma, .imm imm, .rpar] => some (.cmpbGtuRi pd rs imm)
  | .cmphGtu, [.reg rs, .comma, .reg rt, .rpar] => some (.cmphGtuRr pd rs rt)
  | .cmphGtu, [.reg rs, .comma, .imm imm, .rpar] => some (.cmphGtuRi pd rs imm)
  | .cmpGtu, [.reg rs, .comma, .reg rt, .rpar] => some (.cmpGtuRr pd rs rt)
  | .cmpGtu, [.reg rs, .comma, .imm imm, .rpar] => some (.cmpGtuRi pd rs imm)
  | .cmpGtu, [.pair rss, .comma, .pair rtt, .rpar] => some (.cmpGtuPp pd rss rtt)
  | .cmpGe, [.reg rs, .comma, .imm imm, .rpar] => some (.cmpGeRi pd rs imm)
  | .sfcmpGe, [.reg rs, .comma, .reg rt, .rpar] => some (.sfcmpGe pd rs rt)
  | .dfcmpGe, [.pair rss, .comma, .pair rtt, .rpar] => some (.dfcmpGe pd rss rtt)
  | .cmpGeu, [.reg rs, .comma, .imm imm, .rpar] => some (.cmpGeuRi pd rs imm)
  | .cmpLt, [.reg rs, .comma, .reg rt, .rpar] => some (.cmpLtRr pd rs rt)
  | .cmpLtu, [.reg rs, .comma, .reg rt, .rpar] => some (.cmpLtuRr pd rs rt)
  | .sfcmpUo, [.reg rs, .comma, .reg rt, .rpar] => some (.sfcmpUo pd rs rt)
  | .dfcmpUo, [.pair rss, .comma, .pair rtt, .rpar] => some (.dfcmpUo pd rss rtt)
  | .sfclass, [.reg rs, .comma, .imm imm, .rpar] => some (.sfclass pd rs imm)
  | .dfclass, [.pair rss, .comma, .imm imm, .rpar] => some (.dfclass pd rss imm)
  | .tstbit, [.reg rs, .comma, .reg rt, .rpar] => some (.tstbitRr pd rs rt)
  | .tstbit, [.reg rs, .comma, .imm imm, .rpar] => some (.tstbitRi pd rs imm)
  | .bitsclr, [.reg rs, .comma, .reg rt, .rpar] => some (.bitsclrRr pd rs rt)
  | .bitsclr, [.reg rs, .comma, .imm imm, .rpar] => some (.bitsclrRi pd rs imm)
  | .bitsset, [.reg rs, .comma, .reg rt, .rpar] => some (.bitssetRr pd rs rt)
  | .boundscheck, [.reg rs, .comma, .pair rtt, .rpar] => some (.boundscheck pd rs rtt)
  | .tlbmatch, [.pair rss, .comma, .reg rt, .rpar] => some (.tlbmatch pd rss rt)
  | .andWord, [.pred ps, .comma, .pred pt, .rpar] => some (.andPp pd ps pt)
  | .andWord, [.pred ps, .comma, .bang, .pred pt, .rpar] => some (.andPpn pd ps pt)
  | .orWord, [.pred ps, .comma, .pred pt, .rpar] => some (.orPp pd ps pt)
  | .orWord, [.pred ps, .comma, .bang, .pred pt, .rpar] => some (.orPpn pd ps pt)
  | .andWord, [.pred ps, .comma, .kw .andWord, .lpar, .pred pt, .comma, .pred pu, .rpar, .rpar] => some (.andAndPpp pd ps pt pu)
  | .andWord, [.pred ps, .comma, .kw .andWord, .lpar, .pred pt, .comma, .bang, .pred pu, .rpar, .rpar] => some (.andAndPppn pd ps pt pu)
  | .andWord, [.pred ps, .comma, .kw .orWord, .lpar, .pred pt, .comma, .pred pu, .rpar, .rpar] => some (.andOrPpp pd ps pt pu)
  | .andWord, [.pred ps, .comma, .kw .orWord, .lpar, .pred pt, .comma, .bang, .pred pu, .rpar, .rpar] => some (.andOrPppn pd ps pt pu)
  | .orWord, [.pred ps, .comma, .kw .andWord, .lpar, .pred pt, .comma, .pred pu, .rpar, .rpar] => some (.orAndPpp pd ps pt pu)
  | .orWord, [.pred ps, .comma, .kw .andWord, .lpar, .pred pt, .comma, .bang, .pred pu, .rpar, .rpar] => some (.orAndPppn pd ps pt pu)
  | .orWord, [.pred ps, .comma, .kw .orWord, .lpar, .pred pt, .comma, .pred pu, .rpar, .rpar] => some (.orOrPpp pd ps pt pu)
  | .orWord, [.pred ps, .comma, .kw .orWord, .lpar, .pred pt, .comma, .bang, .pred pu, .rpar, .rpar] => some (.orOrPppn pd ps pt pu)
  | .notWord, [.pred ps, .rpar] => some (.notP pd ps)
  | .xorWord, [.pred ps, .comma, .pred pt, .rpar] => some (.xorPp pd ps pt)
  | .any8, [.pred ps, .rpar] => some (.any8 pd ps)
  | .all8, [.pred ps, .rpar] => some (.all8 pd ps)
  | .vcmpbEq, [.pair rss, .comma, .pair rtt, .rpar] => some (.vcmpbEq pd rss rtt)
  | .vcmphEq, [.pair rss, .comma, .pair rtt, .rpar] => some (.vcmphEq pd rss rtt)
  | .vcmpwEq, [.pair rss, .comma, .pair rtt, .rpar] => some (.vcmpwEq pd rss rtt)
  | .vcmpbGt, [.pair rss, .comma, .pair rtt, .rpar] => some (.vcmpbGt pd rss rtt)
  | .vcmpbGtu, [.pair rss, .comma, .pair rtt, .rpar] => some (.vcmpbGtu pd rss rtt)
  | .vcmphGt, [.pair rss, .comma, .pair rtt, .rpar] => some (.vcmphGt pd rss rtt)
  | .vcmphGtu, [.pair rss, .comma, .pair rtt, .rpar] => some (.vcmphGtu pd rss rtt)
  | .vcmpwGt, [.pair rss, .comma, .pair rtt, .rpar] => some (.vcmpwGt pd rss rtt)
  | .vcmpwGtu, [.pair rss, .comma, .pair rtt, .rpar] => some (.vcmpwGtu pd rss rtt)
  | _, _ => none

/-- The operation `Pd = !mnemonic(...)` (R158). -/
def readPredNegated (pd : PReg) : Kw → List Token → Option Operation
  | .cmpEq, [.reg rs, .comma, .reg rt, .rpar] => some (.ncmpEqRr pd rs rt)
  | .cmpEq, [.reg rs, .comma, .imm imm, .rpar] => some (.ncmpEqRi pd rs imm)
  | .cmpGt, [.reg rs, .comma, .reg rt, .rpar] => some (.ncmpGtRr pd rs rt)
  | .cmpGt, [.reg rs, .comma, .imm imm, .rpar] => some (.ncmpGtRi pd rs imm)
  | .cmpGtu, [.reg rs, .comma, .reg rt, .rpar] => some (.ncmpGtuRr pd rs rt)
  | .cmpGtu, [.reg rs, .comma, .imm imm, .rpar] => some (.ncmpGtuRi pd rs imm)
  | .tstbit, [.reg rs, .comma, .reg rt, .rpar] => some (.ntstbitRr pd rs rt)
  | .tstbit, [.reg rs, .comma, .imm imm, .rpar] => some (.ntstbitRi pd rs imm)
  | .bitsclr, [.reg rs, .comma, .reg rt, .rpar] => some (.nbitsclrRr pd rs rt)
  | .bitsclr, [.reg rs, .comma, .imm imm, .rpar] => some (.nbitsclrRi pd rs imm)
  | .bitsset, [.reg rs, .comma, .reg rt, .rpar] => some (.nbitssetRr pd rs rt)
  | _, _ => none

/-- The operation `Rd = mnemonic(...)`. -/
def readRegCall (rd : GReg) : Kw → List Token → Option Operation
  | .cmpEq, [.reg rs, .comma, .reg rt, .rpar] => some (.cmpEqToR rd rs rt)
  | .memw, [.reg rs, .rpar] => some (.memwLd rd rs)
  | .memb, [.reg rs, .rpar] => some (.membLd rd rs)
  | .memub, [.reg rs, .rpar] => some (.memubLd rd rs)
  | .memh, [.reg rs, .rpar] => some (.memhLd rd rs)
  | .memuh, [.reg rs, .rpar] => some (.memuhLd rd rs)
  | .add, [.reg rs, .comma, .reg rt, .rpar] => some (.addRr rd rs rt)
  | .add, [.reg rs, .comma, .imm imm, .rpar] => some (.addRi rd rs imm)
  | .sub, [.reg rt, .comma, .reg rs, .rpar] => some (.subRr rd rt rs)
  | .andWord, [.reg rs, .comma, .reg rt, .rpar] => some (.andRr rd rs rt)
  | .orWord, [.reg rs, .comma, .reg rt, .rpar] => some (.orRr rd rs rt)
  | .xorWord, [.reg rs, .comma, .reg rt, .rpar] => some (.xorRr rd rs rt)
  | .aslh, [.reg rs, .rpar] => some (.aslh rd rs)
  | .asrh, [.reg rs, .rpar] => some (.asrh rd rs)
  | .sxtb, [.reg rs, .rpar] => some (.sxtb rd rs)
  | .sxth, [.reg rs, .rpar] => some (.sxth rd rs)
  | .zxtb, [.reg rs, .rpar] => some (.zxtb rd rs)
  | .zxth, [.reg rs, .rpar] => some (.zxth rd rs)
  | .mux, [.pred ps, .comma, .reg rs, .comma, .reg rt, .rpar] => some (.muxRr rd ps rs rt)
  | _, _ => none

/-- The operation `Rdd = mnemonic(...)`. -/
def readPairCall (rdd : PairReg) : Kw → List Token → Option Operation
  | .memd, [.reg rs, .rpar] => some (.memdLd rdd rs)
  | .combine, [.reg rs, .comma, .reg rt, .rpar] => some (.combine rdd rs rt)
  | .vmux, [.pred ps, .comma, .pair rss, .comma, .pair rtt, .rpar] => some (.vmux rdd ps rss rtt)
  | _, _ => none

/-- The operation that a sequence of tokens spells. The hints of a jump change nothing (R57). -/
def readOperation : List Token → Option Operation
  | .pred pd :: .eq :: .kw k :: .lpar :: rest => readPredCall pd k rest
  | .pred pd :: .eq :: .bang :: .kw k :: .lpar :: rest => readPredNegated pd k rest
  | .reg rd :: .eq :: .kw k :: .lpar :: rest => readRegCall rd k rest
  | .pair rdd :: .eq :: .kw k :: .lpar :: rest => readPairCall rdd k rest
  | [.kw .memwLocked, .lpar, .reg rs, .comma, .pred pd, .rpar, .eq, .reg rt] => some (.memwLockedSt rs pd rt)
  | [.kw .memdLocked, .lpar, .reg rs, .comma, .pred pd, .rpar, .eq, .pair rtt] => some (.memdLockedSt rs pd rtt)
  | [.pred pd, .eq, .pred ps] => some (.tfrPp pd ps)
  | [.pred pd, .eq, .reg rs] => some (.tfrPr pd rs)
  | [.reg rd, .eq, .pred ps] => some (.tfrRp rd ps)
  | [.quad, .eq, .reg rs] => some (.tfrP4r rs)
  | [.reg rd, .eq, .quad] => some (.tfrRp4 rd)
  | [.ctl, .eq, .pair rss] => some (.tfrC54 rss)
  | [.kw .jump, .label lbl] => some (.jump lbl)
  | [.kw .call, .label lbl] => some (.call lbl)
  | [.kw .jumpr, .reg rs] => some (.jumpr rs)
  | [.kw .callr, .reg rs] => some (.callr rs)
  | [.kw .memw, .lpar, .reg rs, .rpar, .eq, .reg rt] => some (.memwSt rs rt)
  | [.kw .memd, .lpar, .reg rs, .rpar, .eq, .pair rtt] => some (.memdSt rs rtt)
  | [.kw .memb, .lpar, .reg rs, .rpar, .eq, .reg rt] => some (.membSt rs rt)
  | [.kw .memh, .lpar, .reg rs, .rpar, .eq, .reg rt] => some (.memhSt rs rt)
  | [.reg rd, .eq, .reg rs] => some (.tfr rd rs)
  | [.reg rd, .eq, .imm imm] => some (.tfri rd imm)
  | [.kw .deallocReturn] => some (.deallocReturn)
  | [.kw .jumpT, .label lbl] => some (.jump lbl)
  | [.kw .jumpNT, .label lbl] => some (.jump lbl)
  | _ => none

/-! ### Guards and lines -/

/-- The tokens of a guard (R52, R200). -/
def Guard.tokens : Guard → List Token
  | .ifT pu => [.kw .ifWord, .lpar, .pred pu, .rpar]
  | .ifF pu => [.kw .ifWord, .lpar, .bang, .pred pu, .rpar]
  | .ifTnew pu => [.kw .ifWord, .lpar, .newPred pu, .rpar]
  | .ifFnew pu => [.kw .ifWord, .lpar, .bang, .newPred pu, .rpar]

/-- The guard of a line, if it begins with one, and what follows it (R52). -/
def readGuard : List Token → Option Guard × List Token
  | .kw .ifWord :: .lpar :: .pred pu :: .rpar :: rest => (some (.ifT pu), rest)
  | .kw .ifWord :: .lpar :: .bang :: .pred pu :: .rpar :: rest => (some (.ifF pu), rest)
  | .kw .ifWord :: .lpar :: .newPred pu :: .rpar :: rest => (some (.ifTnew pu), rest)
  | .kw .ifWord :: .lpar :: .bang :: .newPred pu :: .rpar :: rest => (some (.ifFnew pu), rest)
  | ts => (none, ts)

/-- The tokens of a line. -/
def Line.tokens (l : Line) : List Token := (l.guard.elim [] Guard.tokens) ++ l.op.tokens

/-- The instruction that a guard and an operation make. Only the operations of R203 have guarded forms. -/
def Line.instr : Line → Option Instr
  | ⟨none, .cmpbEqRr pd rs rt⟩ => some (.cmpbEqRr pd rs rt)
  | ⟨none, .cmpbEqRi pd rs imm⟩ => some (.cmpbEqRi pd rs imm)
  | ⟨none, .cmphEqRr pd rs rt⟩ => some (.cmphEqRr pd rs rt)
  | ⟨none, .cmphEqRi pd rs imm⟩ => some (.cmphEqRi pd rs imm)
  | ⟨none, .cmpEqRr pd rs rt⟩ => some (.cmpEqRr pd rs rt)
  | ⟨none, .ncmpEqRr pd rs rt⟩ => some (.ncmpEqRr pd rs rt)
  | ⟨none, .cmpEqRi pd rs imm⟩ => some (.cmpEqRi pd rs imm)
  | ⟨none, .ncmpEqRi pd rs imm⟩ => some (.ncmpEqRi pd rs imm)
  | ⟨none, .cmpEqPp pd rss rtt⟩ => some (.cmpEqPp pd rss rtt)
  | ⟨none, .sfcmpEq pd rs rt⟩ => some (.sfcmpEq pd rs rt)
  | ⟨none, .dfcmpEq pd rss rtt⟩ => some (.dfcmpEq pd rss rtt)
  | ⟨none, .cmpbGtRr pd rs rt⟩ => some (.cmpbGtRr pd rs rt)
  | ⟨none, .cmpbGtRi pd rs imm⟩ => some (.cmpbGtRi pd rs imm)
  | ⟨none, .cmphGtRr pd rs rt⟩ => some (.cmphGtRr pd rs rt)
  | ⟨none, .cmphGtRi pd rs imm⟩ => some (.cmphGtRi pd rs imm)
  | ⟨none, .cmpGtRr pd rs rt⟩ => some (.cmpGtRr pd rs rt)
  | ⟨none, .ncmpGtRr pd rs rt⟩ => some (.ncmpGtRr pd rs rt)
  | ⟨none, .cmpGtRi pd rs imm⟩ => some (.cmpGtRi pd rs imm)
  | ⟨none, .ncmpGtRi pd rs imm⟩ => some (.ncmpGtRi pd rs imm)
  | ⟨none, .cmpGtPp pd rss rtt⟩ => some (.cmpGtPp pd rss rtt)
  | ⟨none, .sfcmpGt pd rs rt⟩ => some (.sfcmpGt pd rs rt)
  | ⟨none, .dfcmpGt pd rss rtt⟩ => some (.dfcmpGt pd rss rtt)
  | ⟨none, .cmpbGtuRr pd rs rt⟩ => some (.cmpbGtuRr pd rs rt)
  | ⟨none, .cmpbGtuRi pd rs imm⟩ => some (.cmpbGtuRi pd rs imm)
  | ⟨none, .cmphGtuRr pd rs rt⟩ => some (.cmphGtuRr pd rs rt)
  | ⟨none, .cmphGtuRi pd rs imm⟩ => some (.cmphGtuRi pd rs imm)
  | ⟨none, .cmpGtuRr pd rs rt⟩ => some (.cmpGtuRr pd rs rt)
  | ⟨none, .ncmpGtuRr pd rs rt⟩ => some (.ncmpGtuRr pd rs rt)
  | ⟨none, .cmpGtuRi pd rs imm⟩ => some (.cmpGtuRi pd rs imm)
  | ⟨none, .ncmpGtuRi pd rs imm⟩ => some (.ncmpGtuRi pd rs imm)
  | ⟨none, .cmpGtuPp pd rss rtt⟩ => some (.cmpGtuPp pd rss rtt)
  | ⟨none, .cmpGeRi pd rs imm⟩ => some (.cmpGeRi pd rs imm)
  | ⟨none, .sfcmpGe pd rs rt⟩ => some (.sfcmpGe pd rs rt)
  | ⟨none, .dfcmpGe pd rss rtt⟩ => some (.dfcmpGe pd rss rtt)
  | ⟨none, .cmpGeuRi pd rs imm⟩ => some (.cmpGeuRi pd rs imm)
  | ⟨none, .cmpLtRr pd rs rt⟩ => some (.cmpLtRr pd rs rt)
  | ⟨none, .cmpLtuRr pd rs rt⟩ => some (.cmpLtuRr pd rs rt)
  | ⟨none, .sfcmpUo pd rs rt⟩ => some (.sfcmpUo pd rs rt)
  | ⟨none, .dfcmpUo pd rss rtt⟩ => some (.dfcmpUo pd rss rtt)
  | ⟨none, .sfclass pd rs imm⟩ => some (.sfclass pd rs imm)
  | ⟨none, .dfclass pd rss imm⟩ => some (.dfclass pd rss imm)
  | ⟨none, .tstbitRr pd rs rt⟩ => some (.tstbitRr pd rs rt)
  | ⟨none, .ntstbitRr pd rs rt⟩ => some (.ntstbitRr pd rs rt)
  | ⟨none, .tstbitRi pd rs imm⟩ => some (.tstbitRi pd rs imm)
  | ⟨none, .ntstbitRi pd rs imm⟩ => some (.ntstbitRi pd rs imm)
  | ⟨none, .bitsclrRr pd rs rt⟩ => some (.bitsclrRr pd rs rt)
  | ⟨none, .nbitsclrRr pd rs rt⟩ => some (.nbitsclrRr pd rs rt)
  | ⟨none, .bitsclrRi pd rs imm⟩ => some (.bitsclrRi pd rs imm)
  | ⟨none, .nbitsclrRi pd rs imm⟩ => some (.nbitsclrRi pd rs imm)
  | ⟨none, .bitssetRr pd rs rt⟩ => some (.bitssetRr pd rs rt)
  | ⟨none, .nbitssetRr pd rs rt⟩ => some (.nbitssetRr pd rs rt)
  | ⟨none, .memwLockedSt rs pd rt⟩ => some (.memwLockedSt rs pd rt)
  | ⟨none, .memdLockedSt rs pd rtt⟩ => some (.memdLockedSt rs pd rtt)
  | ⟨none, .boundscheck pd rs rtt⟩ => some (.boundscheck pd rs rtt)
  | ⟨none, .tlbmatch pd rss rt⟩ => some (.tlbmatch pd rss rt)
  | ⟨none, .cmpEqToR rd rs rt⟩ => some (.cmpEqToR rd rs rt)
  | ⟨none, .tfrPp pd ps⟩ => some (.tfrPp pd ps)
  | ⟨none, .tfrPr pd rs⟩ => some (.tfrPr pd rs)
  | ⟨none, .tfrRp rd ps⟩ => some (.tfrRp rd ps)
  | ⟨none, .andPp pd ps pt⟩ => some (.andPp pd ps pt)
  | ⟨none, .andPpn pd ps pt⟩ => some (.andPpn pd ps pt)
  | ⟨none, .orPp pd ps pt⟩ => some (.orPp pd ps pt)
  | ⟨none, .orPpn pd ps pt⟩ => some (.orPpn pd ps pt)
  | ⟨none, .andAndPpp pd ps pt pu⟩ => some (.andAndPpp pd ps pt pu)
  | ⟨none, .andAndPppn pd ps pt pu⟩ => some (.andAndPppn pd ps pt pu)
  | ⟨none, .andOrPpp pd ps pt pu⟩ => some (.andOrPpp pd ps pt pu)
  | ⟨none, .andOrPppn pd ps pt pu⟩ => some (.andOrPppn pd ps pt pu)
  | ⟨none, .orAndPpp pd ps pt pu⟩ => some (.orAndPpp pd ps pt pu)
  | ⟨none, .orAndPppn pd ps pt pu⟩ => some (.orAndPppn pd ps pt pu)
  | ⟨none, .orOrPpp pd ps pt pu⟩ => some (.orOrPpp pd ps pt pu)
  | ⟨none, .orOrPppn pd ps pt pu⟩ => some (.orOrPppn pd ps pt pu)
  | ⟨none, .notP pd ps⟩ => some (.notP pd ps)
  | ⟨none, .xorPp pd ps pt⟩ => some (.xorPp pd ps pt)
  | ⟨none, .any8 pd ps⟩ => some (.any8 pd ps)
  | ⟨none, .all8 pd ps⟩ => some (.all8 pd ps)
  | ⟨none, .tfrP4r rs⟩ => some (.tfrP4r rs)
  | ⟨none, .tfrRp4 rd⟩ => some (.tfrRp4 rd)
  | ⟨none, .tfrC54 rss⟩ => some (.tfrC54 rss)
  | ⟨none, .jump lbl⟩ => some (.jump lbl)
  | ⟨some (.ifT pu), .jump lbl⟩ => some (.jumpIfT pu lbl)
  | ⟨some (.ifF pu), .jump lbl⟩ => some (.jumpIfF pu lbl)
  | ⟨some (.ifTnew pu), .jump lbl⟩ => some (.jumpIfTnew pu lbl)
  | ⟨some (.ifFnew pu), .jump lbl⟩ => some (.jumpIfFnew pu lbl)
  | ⟨none, .call lbl⟩ => some (.call lbl)
  | ⟨some (.ifT pu), .call lbl⟩ => some (.callIfT pu lbl)
  | ⟨some (.ifF pu), .call lbl⟩ => some (.callIfF pu lbl)
  | ⟨some (.ifTnew pu), .call lbl⟩ => some (.callIfTnew pu lbl)
  | ⟨some (.ifFnew pu), .call lbl⟩ => some (.callIfFnew pu lbl)
  | ⟨none, .jumpr rs⟩ => some (.jumpr rs)
  | ⟨some (.ifT pu), .jumpr rs⟩ => some (.jumprIfT pu rs)
  | ⟨some (.ifF pu), .jumpr rs⟩ => some (.jumprIfF pu rs)
  | ⟨some (.ifTnew pu), .jumpr rs⟩ => some (.jumprIfTnew pu rs)
  | ⟨some (.ifFnew pu), .jumpr rs⟩ => some (.jumprIfFnew pu rs)
  | ⟨none, .callr rs⟩ => some (.callr rs)
  | ⟨some (.ifT pu), .callr rs⟩ => some (.callrIfT pu rs)
  | ⟨some (.ifF pu), .callr rs⟩ => some (.callrIfF pu rs)
  | ⟨some (.ifTnew pu), .callr rs⟩ => some (.callrIfTnew pu rs)
  | ⟨some (.ifFnew pu), .callr rs⟩ => some (.callrIfFnew pu rs)
  | ⟨none, .memwLd rd rs⟩ => some (.memwLd rd rs)
  | ⟨some (.ifT pu), .memwLd rd rs⟩ => some (.memwLdIfT pu rd rs)
  | ⟨some (.ifF pu), .memwLd rd rs⟩ => some (.memwLdIfF pu rd rs)
  | ⟨some (.ifTnew pu), .memwLd rd rs⟩ => some (.memwLdIfTnew pu rd rs)
  | ⟨some (.ifFnew pu), .memwLd rd rs⟩ => some (.memwLdIfFnew pu rd rs)
  | ⟨none, .memdLd rdd rs⟩ => some (.memdLd rdd rs)
  | ⟨some (.ifT pu), .memdLd rdd rs⟩ => some (.memdLdIfT pu rdd rs)
  | ⟨some (.ifF pu), .memdLd rdd rs⟩ => some (.memdLdIfF pu rdd rs)
  | ⟨some (.ifTnew pu), .memdLd rdd rs⟩ => some (.memdLdIfTnew pu rdd rs)
  | ⟨some (.ifFnew pu), .memdLd rdd rs⟩ => some (.memdLdIfFnew pu rdd rs)
  | ⟨none, .membLd rd rs⟩ => some (.membLd rd rs)
  | ⟨some (.ifT pu), .membLd rd rs⟩ => some (.membLdIfT pu rd rs)
  | ⟨some (.ifF pu), .membLd rd rs⟩ => some (.membLdIfF pu rd rs)
  | ⟨some (.ifTnew pu), .membLd rd rs⟩ => some (.membLdIfTnew pu rd rs)
  | ⟨some (.ifFnew pu), .membLd rd rs⟩ => some (.membLdIfFnew pu rd rs)
  | ⟨none, .memubLd rd rs⟩ => some (.memubLd rd rs)
  | ⟨some (.ifT pu), .memubLd rd rs⟩ => some (.memubLdIfT pu rd rs)
  | ⟨some (.ifF pu), .memubLd rd rs⟩ => some (.memubLdIfF pu rd rs)
  | ⟨some (.ifTnew pu), .memubLd rd rs⟩ => some (.memubLdIfTnew pu rd rs)
  | ⟨some (.ifFnew pu), .memubLd rd rs⟩ => some (.memubLdIfFnew pu rd rs)
  | ⟨none, .memhLd rd rs⟩ => some (.memhLd rd rs)
  | ⟨some (.ifT pu), .memhLd rd rs⟩ => some (.memhLdIfT pu rd rs)
  | ⟨some (.ifF pu), .memhLd rd rs⟩ => some (.memhLdIfF pu rd rs)
  | ⟨some (.ifTnew pu), .memhLd rd rs⟩ => some (.memhLdIfTnew pu rd rs)
  | ⟨some (.ifFnew pu), .memhLd rd rs⟩ => some (.memhLdIfFnew pu rd rs)
  | ⟨none, .memuhLd rd rs⟩ => some (.memuhLd rd rs)
  | ⟨some (.ifT pu), .memuhLd rd rs⟩ => some (.memuhLdIfT pu rd rs)
  | ⟨some (.ifF pu), .memuhLd rd rs⟩ => some (.memuhLdIfF pu rd rs)
  | ⟨some (.ifTnew pu), .memuhLd rd rs⟩ => some (.memuhLdIfTnew pu rd rs)
  | ⟨some (.ifFnew pu), .memuhLd rd rs⟩ => some (.memuhLdIfFnew pu rd rs)
  | ⟨none, .memwSt rs rt⟩ => some (.memwSt rs rt)
  | ⟨some (.ifT pu), .memwSt rs rt⟩ => some (.memwStIfT pu rs rt)
  | ⟨some (.ifF pu), .memwSt rs rt⟩ => some (.memwStIfF pu rs rt)
  | ⟨some (.ifTnew pu), .memwSt rs rt⟩ => some (.memwStIfTnew pu rs rt)
  | ⟨some (.ifFnew pu), .memwSt rs rt⟩ => some (.memwStIfFnew pu rs rt)
  | ⟨none, .memdSt rs rtt⟩ => some (.memdSt rs rtt)
  | ⟨some (.ifT pu), .memdSt rs rtt⟩ => some (.memdStIfT pu rs rtt)
  | ⟨some (.ifF pu), .memdSt rs rtt⟩ => some (.memdStIfF pu rs rtt)
  | ⟨some (.ifTnew pu), .memdSt rs rtt⟩ => some (.memdStIfTnew pu rs rtt)
  | ⟨some (.ifFnew pu), .memdSt rs rtt⟩ => some (.memdStIfFnew pu rs rtt)
  | ⟨none, .membSt rs rt⟩ => some (.membSt rs rt)
  | ⟨some (.ifT pu), .membSt rs rt⟩ => some (.membStIfT pu rs rt)
  | ⟨some (.ifF pu), .membSt rs rt⟩ => some (.membStIfF pu rs rt)
  | ⟨some (.ifTnew pu), .membSt rs rt⟩ => some (.membStIfTnew pu rs rt)
  | ⟨some (.ifFnew pu), .membSt rs rt⟩ => some (.membStIfFnew pu rs rt)
  | ⟨none, .memhSt rs rt⟩ => some (.memhSt rs rt)
  | ⟨some (.ifT pu), .memhSt rs rt⟩ => some (.memhStIfT pu rs rt)
  | ⟨some (.ifF pu), .memhSt rs rt⟩ => some (.memhStIfF pu rs rt)
  | ⟨some (.ifTnew pu), .memhSt rs rt⟩ => some (.memhStIfTnew pu rs rt)
  | ⟨some (.ifFnew pu), .memhSt rs rt⟩ => some (.memhStIfFnew pu rs rt)
  | ⟨none, .addRr rd rs rt⟩ => some (.addRr rd rs rt)
  | ⟨some (.ifT pu), .addRr rd rs rt⟩ => some (.addRrIfT pu rd rs rt)
  | ⟨some (.ifF pu), .addRr rd rs rt⟩ => some (.addRrIfF pu rd rs rt)
  | ⟨some (.ifTnew pu), .addRr rd rs rt⟩ => some (.addRrIfTnew pu rd rs rt)
  | ⟨some (.ifFnew pu), .addRr rd rs rt⟩ => some (.addRrIfFnew pu rd rs rt)
  | ⟨none, .addRi rd rs imm⟩ => some (.addRi rd rs imm)
  | ⟨some (.ifT pu), .addRi rd rs imm⟩ => some (.addRiIfT pu rd rs imm)
  | ⟨some (.ifF pu), .addRi rd rs imm⟩ => some (.addRiIfF pu rd rs imm)
  | ⟨some (.ifTnew pu), .addRi rd rs imm⟩ => some (.addRiIfTnew pu rd rs imm)
  | ⟨some (.ifFnew pu), .addRi rd rs imm⟩ => some (.addRiIfFnew pu rd rs imm)
  | ⟨none, .subRr rd rt rs⟩ => some (.subRr rd rt rs)
  | ⟨some (.ifT pu), .subRr rd rt rs⟩ => some (.subRrIfT pu rd rt rs)
  | ⟨some (.ifF pu), .subRr rd rt rs⟩ => some (.subRrIfF pu rd rt rs)
  | ⟨some (.ifTnew pu), .subRr rd rt rs⟩ => some (.subRrIfTnew pu rd rt rs)
  | ⟨some (.ifFnew pu), .subRr rd rt rs⟩ => some (.subRrIfFnew pu rd rt rs)
  | ⟨none, .andRr rd rs rt⟩ => some (.andRr rd rs rt)
  | ⟨some (.ifT pu), .andRr rd rs rt⟩ => some (.andRrIfT pu rd rs rt)
  | ⟨some (.ifF pu), .andRr rd rs rt⟩ => some (.andRrIfF pu rd rs rt)
  | ⟨some (.ifTnew pu), .andRr rd rs rt⟩ => some (.andRrIfTnew pu rd rs rt)
  | ⟨some (.ifFnew pu), .andRr rd rs rt⟩ => some (.andRrIfFnew pu rd rs rt)
  | ⟨none, .orRr rd rs rt⟩ => some (.orRr rd rs rt)
  | ⟨some (.ifT pu), .orRr rd rs rt⟩ => some (.orRrIfT pu rd rs rt)
  | ⟨some (.ifF pu), .orRr rd rs rt⟩ => some (.orRrIfF pu rd rs rt)
  | ⟨some (.ifTnew pu), .orRr rd rs rt⟩ => some (.orRrIfTnew pu rd rs rt)
  | ⟨some (.ifFnew pu), .orRr rd rs rt⟩ => some (.orRrIfFnew pu rd rs rt)
  | ⟨none, .xorRr rd rs rt⟩ => some (.xorRr rd rs rt)
  | ⟨some (.ifT pu), .xorRr rd rs rt⟩ => some (.xorRrIfT pu rd rs rt)
  | ⟨some (.ifF pu), .xorRr rd rs rt⟩ => some (.xorRrIfF pu rd rs rt)
  | ⟨some (.ifTnew pu), .xorRr rd rs rt⟩ => some (.xorRrIfTnew pu rd rs rt)
  | ⟨some (.ifFnew pu), .xorRr rd rs rt⟩ => some (.xorRrIfFnew pu rd rs rt)
  | ⟨none, .aslh rd rs⟩ => some (.aslh rd rs)
  | ⟨some (.ifT pu), .aslh rd rs⟩ => some (.aslhIfT pu rd rs)
  | ⟨some (.ifF pu), .aslh rd rs⟩ => some (.aslhIfF pu rd rs)
  | ⟨some (.ifTnew pu), .aslh rd rs⟩ => some (.aslhIfTnew pu rd rs)
  | ⟨some (.ifFnew pu), .aslh rd rs⟩ => some (.aslhIfFnew pu rd rs)
  | ⟨none, .asrh rd rs⟩ => some (.asrh rd rs)
  | ⟨some (.ifT pu), .asrh rd rs⟩ => some (.asrhIfT pu rd rs)
  | ⟨some (.ifF pu), .asrh rd rs⟩ => some (.asrhIfF pu rd rs)
  | ⟨some (.ifTnew pu), .asrh rd rs⟩ => some (.asrhIfTnew pu rd rs)
  | ⟨some (.ifFnew pu), .asrh rd rs⟩ => some (.asrhIfFnew pu rd rs)
  | ⟨none, .sxtb rd rs⟩ => some (.sxtb rd rs)
  | ⟨some (.ifT pu), .sxtb rd rs⟩ => some (.sxtbIfT pu rd rs)
  | ⟨some (.ifF pu), .sxtb rd rs⟩ => some (.sxtbIfF pu rd rs)
  | ⟨some (.ifTnew pu), .sxtb rd rs⟩ => some (.sxtbIfTnew pu rd rs)
  | ⟨some (.ifFnew pu), .sxtb rd rs⟩ => some (.sxtbIfFnew pu rd rs)
  | ⟨none, .sxth rd rs⟩ => some (.sxth rd rs)
  | ⟨some (.ifT pu), .sxth rd rs⟩ => some (.sxthIfT pu rd rs)
  | ⟨some (.ifF pu), .sxth rd rs⟩ => some (.sxthIfF pu rd rs)
  | ⟨some (.ifTnew pu), .sxth rd rs⟩ => some (.sxthIfTnew pu rd rs)
  | ⟨some (.ifFnew pu), .sxth rd rs⟩ => some (.sxthIfFnew pu rd rs)
  | ⟨none, .zxtb rd rs⟩ => some (.zxtb rd rs)
  | ⟨some (.ifT pu), .zxtb rd rs⟩ => some (.zxtbIfT pu rd rs)
  | ⟨some (.ifF pu), .zxtb rd rs⟩ => some (.zxtbIfF pu rd rs)
  | ⟨some (.ifTnew pu), .zxtb rd rs⟩ => some (.zxtbIfTnew pu rd rs)
  | ⟨some (.ifFnew pu), .zxtb rd rs⟩ => some (.zxtbIfFnew pu rd rs)
  | ⟨none, .zxth rd rs⟩ => some (.zxth rd rs)
  | ⟨some (.ifT pu), .zxth rd rs⟩ => some (.zxthIfT pu rd rs)
  | ⟨some (.ifF pu), .zxth rd rs⟩ => some (.zxthIfF pu rd rs)
  | ⟨some (.ifTnew pu), .zxth rd rs⟩ => some (.zxthIfTnew pu rd rs)
  | ⟨some (.ifFnew pu), .zxth rd rs⟩ => some (.zxthIfFnew pu rd rs)
  | ⟨none, .tfr rd rs⟩ => some (.tfr rd rs)
  | ⟨some (.ifT pu), .tfr rd rs⟩ => some (.tfrIfT pu rd rs)
  | ⟨some (.ifF pu), .tfr rd rs⟩ => some (.tfrIfF pu rd rs)
  | ⟨some (.ifTnew pu), .tfr rd rs⟩ => some (.tfrIfTnew pu rd rs)
  | ⟨some (.ifFnew pu), .tfr rd rs⟩ => some (.tfrIfFnew pu rd rs)
  | ⟨none, .combine rdd rs rt⟩ => some (.combine rdd rs rt)
  | ⟨some (.ifT pu), .combine rdd rs rt⟩ => some (.combineIfT pu rdd rs rt)
  | ⟨some (.ifF pu), .combine rdd rs rt⟩ => some (.combineIfF pu rdd rs rt)
  | ⟨some (.ifTnew pu), .combine rdd rs rt⟩ => some (.combineIfTnew pu rdd rs rt)
  | ⟨some (.ifFnew pu), .combine rdd rs rt⟩ => some (.combineIfFnew pu rdd rs rt)
  | ⟨none, .tfri rd imm⟩ => some (.tfri rd imm)
  | ⟨some (.ifT pu), .tfri rd imm⟩ => some (.tfriIfT pu rd imm)
  | ⟨some (.ifF pu), .tfri rd imm⟩ => some (.tfriIfF pu rd imm)
  | ⟨some (.ifTnew pu), .tfri rd imm⟩ => some (.tfriIfTnew pu rd imm)
  | ⟨some (.ifFnew pu), .tfri rd imm⟩ => some (.tfriIfFnew pu rd imm)
  | ⟨none, .deallocReturn⟩ => some (.deallocReturn)
  | ⟨some (.ifT pu), .deallocReturn⟩ => some (.deallocReturnIfT pu)
  | ⟨some (.ifF pu), .deallocReturn⟩ => some (.deallocReturnIfF pu)
  | ⟨some (.ifTnew pu), .deallocReturn⟩ => some (.deallocReturnIfTnew pu)
  | ⟨some (.ifFnew pu), .deallocReturn⟩ => some (.deallocReturnIfFnew pu)
  | ⟨none, .muxRr rd ps rs rt⟩ => some (.muxRr rd ps rs rt)
  | ⟨none, .vcmpbEq pd rss rtt⟩ => some (.vcmpbEq pd rss rtt)
  | ⟨none, .vcmphEq pd rss rtt⟩ => some (.vcmphEq pd rss rtt)
  | ⟨none, .vcmpwEq pd rss rtt⟩ => some (.vcmpwEq pd rss rtt)
  | ⟨none, .vcmpbGt pd rss rtt⟩ => some (.vcmpbGt pd rss rtt)
  | ⟨none, .vcmpbGtu pd rss rtt⟩ => some (.vcmpbGtu pd rss rtt)
  | ⟨none, .vcmphGt pd rss rtt⟩ => some (.vcmphGt pd rss rtt)
  | ⟨none, .vcmphGtu pd rss rtt⟩ => some (.vcmphGtu pd rss rtt)
  | ⟨none, .vcmpwGt pd rss rtt⟩ => some (.vcmpwGt pd rss rtt)
  | ⟨none, .vcmpwGtu pd rss rtt⟩ => some (.vcmpwGtu pd rss rtt)
  | ⟨none, .vmux rdd ps rss rtt⟩ => some (.vmux rdd ps rss rtt)
  | ⟨some _, .cmpbEqRr _ _ _⟩ => none
  | ⟨some _, .cmpbEqRi _ _ _⟩ => none
  | ⟨some _, .cmphEqRr _ _ _⟩ => none
  | ⟨some _, .cmphEqRi _ _ _⟩ => none
  | ⟨some _, .cmpEqRr _ _ _⟩ => none
  | ⟨some _, .ncmpEqRr _ _ _⟩ => none
  | ⟨some _, .cmpEqRi _ _ _⟩ => none
  | ⟨some _, .ncmpEqRi _ _ _⟩ => none
  | ⟨some _, .cmpEqPp _ _ _⟩ => none
  | ⟨some _, .sfcmpEq _ _ _⟩ => none
  | ⟨some _, .dfcmpEq _ _ _⟩ => none
  | ⟨some _, .cmpbGtRr _ _ _⟩ => none
  | ⟨some _, .cmpbGtRi _ _ _⟩ => none
  | ⟨some _, .cmphGtRr _ _ _⟩ => none
  | ⟨some _, .cmphGtRi _ _ _⟩ => none
  | ⟨some _, .cmpGtRr _ _ _⟩ => none
  | ⟨some _, .ncmpGtRr _ _ _⟩ => none
  | ⟨some _, .cmpGtRi _ _ _⟩ => none
  | ⟨some _, .ncmpGtRi _ _ _⟩ => none
  | ⟨some _, .cmpGtPp _ _ _⟩ => none
  | ⟨some _, .sfcmpGt _ _ _⟩ => none
  | ⟨some _, .dfcmpGt _ _ _⟩ => none
  | ⟨some _, .cmpbGtuRr _ _ _⟩ => none
  | ⟨some _, .cmpbGtuRi _ _ _⟩ => none
  | ⟨some _, .cmphGtuRr _ _ _⟩ => none
  | ⟨some _, .cmphGtuRi _ _ _⟩ => none
  | ⟨some _, .cmpGtuRr _ _ _⟩ => none
  | ⟨some _, .ncmpGtuRr _ _ _⟩ => none
  | ⟨some _, .cmpGtuRi _ _ _⟩ => none
  | ⟨some _, .ncmpGtuRi _ _ _⟩ => none
  | ⟨some _, .cmpGtuPp _ _ _⟩ => none
  | ⟨some _, .cmpGeRi _ _ _⟩ => none
  | ⟨some _, .sfcmpGe _ _ _⟩ => none
  | ⟨some _, .dfcmpGe _ _ _⟩ => none
  | ⟨some _, .cmpGeuRi _ _ _⟩ => none
  | ⟨some _, .cmpLtRr _ _ _⟩ => none
  | ⟨some _, .cmpLtuRr _ _ _⟩ => none
  | ⟨some _, .sfcmpUo _ _ _⟩ => none
  | ⟨some _, .dfcmpUo _ _ _⟩ => none
  | ⟨some _, .sfclass _ _ _⟩ => none
  | ⟨some _, .dfclass _ _ _⟩ => none
  | ⟨some _, .tstbitRr _ _ _⟩ => none
  | ⟨some _, .ntstbitRr _ _ _⟩ => none
  | ⟨some _, .tstbitRi _ _ _⟩ => none
  | ⟨some _, .ntstbitRi _ _ _⟩ => none
  | ⟨some _, .bitsclrRr _ _ _⟩ => none
  | ⟨some _, .nbitsclrRr _ _ _⟩ => none
  | ⟨some _, .bitsclrRi _ _ _⟩ => none
  | ⟨some _, .nbitsclrRi _ _ _⟩ => none
  | ⟨some _, .bitssetRr _ _ _⟩ => none
  | ⟨some _, .nbitssetRr _ _ _⟩ => none
  | ⟨some _, .memwLockedSt _ _ _⟩ => none
  | ⟨some _, .memdLockedSt _ _ _⟩ => none
  | ⟨some _, .boundscheck _ _ _⟩ => none
  | ⟨some _, .tlbmatch _ _ _⟩ => none
  | ⟨some _, .cmpEqToR _ _ _⟩ => none
  | ⟨some _, .tfrPp _ _⟩ => none
  | ⟨some _, .tfrPr _ _⟩ => none
  | ⟨some _, .tfrRp _ _⟩ => none
  | ⟨some _, .andPp _ _ _⟩ => none
  | ⟨some _, .andPpn _ _ _⟩ => none
  | ⟨some _, .orPp _ _ _⟩ => none
  | ⟨some _, .orPpn _ _ _⟩ => none
  | ⟨some _, .andAndPpp _ _ _ _⟩ => none
  | ⟨some _, .andAndPppn _ _ _ _⟩ => none
  | ⟨some _, .andOrPpp _ _ _ _⟩ => none
  | ⟨some _, .andOrPppn _ _ _ _⟩ => none
  | ⟨some _, .orAndPpp _ _ _ _⟩ => none
  | ⟨some _, .orAndPppn _ _ _ _⟩ => none
  | ⟨some _, .orOrPpp _ _ _ _⟩ => none
  | ⟨some _, .orOrPppn _ _ _ _⟩ => none
  | ⟨some _, .notP _ _⟩ => none
  | ⟨some _, .xorPp _ _ _⟩ => none
  | ⟨some _, .any8 _ _⟩ => none
  | ⟨some _, .all8 _ _⟩ => none
  | ⟨some _, .tfrP4r _⟩ => none
  | ⟨some _, .tfrRp4 _⟩ => none
  | ⟨some _, .tfrC54 _⟩ => none
  | ⟨some _, .muxRr _ _ _ _⟩ => none
  | ⟨some _, .vcmpbEq _ _ _⟩ => none
  | ⟨some _, .vcmphEq _ _ _⟩ => none
  | ⟨some _, .vcmpwEq _ _ _⟩ => none
  | ⟨some _, .vcmpbGt _ _ _⟩ => none
  | ⟨some _, .vcmpbGtu _ _ _⟩ => none
  | ⟨some _, .vcmphGt _ _ _⟩ => none
  | ⟨some _, .vcmphGtu _ _ _⟩ => none
  | ⟨some _, .vcmpwGt _ _ _⟩ => none
  | ⟨some _, .vcmpwGtu _ _ _⟩ => none
  | ⟨some _, .vmux _ _ _ _⟩ => none

/-- The instruction that a sequence of tokens spells. -/
def readLine (ts : List Token) : Option Instr :=
  match readGuard ts with
  | (g, rest) => (readOperation rest).bind fun op => Line.instr ⟨g, op⟩

/-! ### Text -/

/-- The instruction that a text spells, or why it spells none. -/
def decode (text : Text) : Except DecodeError Instr :=
  match Lexer.tokens text with
  | none => .error .notTokens
  | some ts =>
    match readLine ts with
    | none => .error .noSuchInstruction
    | some i => .ok i

/-- The text of an instruction. -/
def encode (i : Instr) : Text := spell i.line.tokens

/-- The first `n` bytes of a number, least significant first. -/
def bytesOfNat : Nat → Nat → Text
  | 0, _ => []
  | n + 1, w => BitVec.ofNat 8 w :: bytesOfNat n (w / 256)

/-- The text that a number of `nbits` bits holds, its first byte in bits 7:0, up to the first zero byte (entry 2). -/
def textOfWord (nbits w : Nat) : Text := (bytesOfNat (nbits / 8) w).takeWhile fun b => b != 0#8

/-- The instruction that `decode` reads from the bytes of a number. -/
def decodeTableWord (nbits w : Nat) : Option Instr :=
  match decode (textOfWord nbits w) with
  | .ok i => some i
  | .error _ => none

end Sys2Proof
end

