-- ==== Sys2Proof/Machine/State.lean ====
section
/-!
DEFINITION. The machine's state as plain data (`spec/10_state.md`, `spec/20_memory.md` rules R30, R40), the ways a step
can stop (`spec/60_exceptions.md` rules R600, R617), and the state after reset (R23, R700). `INVENTORY.md` lists every
field with the rule that names it and its reset value.
-/

namespace Sys2Proof.Machine

/-! ### Memory and reservation -/

/-- Byte memory (R30): the bytes that have been written, as address and byte, addresses strictly rising and below
`2^32`. An unlisted address holds no value, so no entry can equal what an unlisted address reads as (R36: a read there
is a draw, `Config.unwrittenByte`; entry 7). -/
abbrev Memory := List Host.Cell

/-- Read or write (R34). -/
inductive AccessKind where
  | read
  | write
  deriving DecidableEq, Repr

/-- The sizes a reservation can have, 4 or 8 bytes (R20, R40). -/
inductive ResvSize where
  | word
  | dword
  deriving DecidableEq, Repr

/-- The store-conditional reservation `resv` when there is one: an address and a size (R20, R40). -/
structure Reservation where
  addr : Word
  size : ResvSize
  deriving DecidableEq, Repr

/-! ### Launch parameters (R4, R22; entry 3) -/

/-- One packet of the program: its address, the labels attached to it (R60) and its lines (R51). -/
structure PacketText where
  addr : Word
  labels : List Label
  lines : List Text
  deriving DecidableEq, Repr

/-- One line of `MemAdmit` (R34): an access of `size` bytes and the given kind whose address lies in `first` to `last`
is a violation. -/
structure Denial where
  kind : AccessKind
  size : Nat
  first : Nat
  last : Nat
  deriving DecidableEq, Repr

/-- The five floating-point classes (R140, R157). -/
inductive FpClass where
  | zero
  | normal
  | subnormal
  | infinite
  | nan
  deriving DecidableEq, Repr

/-- `ClassBit`: the bit of the `#u5` operand that stands for each class, a bijection of the five classes and the bits 0
to 4 (R140, D15, U10; entry 19). -/
structure ClassBits where
  zero : Fin 5
  normal : Fin 5
  subnormal : Fin 5
  infinite : Fin 5
  nan : Fin 5
  /-- No two classes have one bit. -/
  distinct : [zero, normal, subnormal, infinite, nan].Nodup
  deriving DecidableEq, Repr

/-- Which function an OPEN function parameter is (R142, R154): the default one that the spec takes from general
knowledge, or another one of which nothing is known (entries 20, 21). -/
inductive OpenFunction where
  | default
  | other
  deriving DecidableEq, Repr

/-- What the launch fixes for a whole run (R4, R22). No step changes it. -/
structure Launch where
  /-- The program: packets at addresses. Where two have one address, the first counts (R300; entry 38). -/
  packets : List PacketText
  /-- `HALT_PC`, if the launch chose one (R704; entry 31). -/
  haltPc : Option Word
  /-- `MemAdmit` as the list of the accesses that are violations (R34; entry 11). -/
  denied : List Denial
  /-- `AdmitTlbmatch` (R155, D13). -/
  tlbmatchOn : Bool
  /-- `AdmitGK` (D30). -/
  gkOn : Bool
  /-- `AutoAndLogical` (R306, D28). -/
  autoAndLogical : Bool
  /-- `AutoAndOther` (R306, D39). -/
  autoAndOther : Bool
  /-- `ClassBit`, for `sfclass` and `dfclass` alike (R140, R141). -/
  classBits : ClassBits
  /-- `BoundsCheck` (R154). -/
  bounds : OpenFunction
  /-- `TstbitWide` (R142). -/
  tstbitWide : OpenFunction
  deriving DecidableEq, Repr

/-! ### Packet-local values (R21, R300; entry 13) -/

/-- An executed load: its address and its number of bytes (R44). -/
structure Load where
  addr : Word
  size : Nat
  deriving DecidableEq, Repr

/-- An executed store: its address and its bytes, lowest address first (R32). -/
structure Store where
  addr : Word
  bytes : List Byte
  deriving DecidableEq, Repr

/-- What instructions of the packet being executed have computed and not committed (R300 phases 1 and 3). -/
structure Effects where
  /-- General-register writes. -/
  regs : List (GReg × Word)
  /-- Predicate results, before the AND of R305. -/
  preds : List (PReg × Byte)
  /-- Executed loads. -/
  loads : List Load
  /-- Executed stores. -/
  stores : List Store
  /-- The pc target of an executed jump, call or return (R304). -/
  target : Option Word
  /-- A store conditional executed, which clears the reservation (R40). -/
  clearsResv : Bool
  deriving DecidableEq, Repr

/-- No effect. -/
def Effects.none : Effects :=
  { regs := [], preds := [], loads := [], stores := [], target := Option.none, clearsResv := false }

/-- The values that exist only while a packet executes (R21). -/
structure PacketLocal where
  /-- The number of instructions of the packet (R304). -/
  size : Nat
  /-- The newly generated value of each predicate register that the packet generates (R300 phase 1, R310). -/
  newP : Vector (Option Byte) 4
  /-- The effects computed so far. -/
  effects : Effects
  deriving DecidableEq, Repr

/-- Between packets there are no packet-local values (R21). -/
def PacketLocal.none : PacketLocal :=
  { size := 0, newP := Vector.replicate 4 Option.none, effects := Effects.none }

/-! ### The state -/

/-- The state (`spec/10_state.md`, the tuple before R10, and R21, R22). -/
structure State where
  /-- General registers `R0` to `R31` (R10). -/
  regs : Vector Word 32
  /-- Predicate registers `P0` to `P3` (R13). -/
  preds : Vector Byte 4
  /-- The address of the packet being executed (R19). -/
  pc : Word
  /-- Memory (R30). -/
  mem : Memory
  /-- The store-conditional reservation (R20). -/
  resv : Option Reservation
  /-- The packet-local values (R21). -/
  pkt : PacketLocal
  /-- The launch parameters (R4, R22). -/
  launch : Launch
  /-- The MODEL's own field: how many packets have committed; it selects the draws (entry 8). -/
  tick : Nat
  deriving DecidableEq, Repr

/-! ### How a step can stop -/

/-- The exceptions that the source names (R600, R601, R602). -/
inductive Exception where
  /-- Two executed instructions of the packet at `packet` write the general register `reg` (R322, R601). -/
  | multipleWriteError (reg : GReg) (packet : Word)
  /-- An executed access to `addr` has a permission violation (R34, R602). -/
  | memoryPermissionViolation (addr : Word) (kind : AccessKind)
  deriving DecidableEq, Repr

/-- The terminal outcomes `raise` and `fault` (R600, R617). None has a next state (R603, R605). -/
inductive Fault where
  /-- An architectural exception is raised: by any two guarded writers of one general register that both execute, or by
  an executed load, store or store conditional that `MemAdmit` refuses. Terminal because the spec gives no trap entry
  (R605, D9). Safe: the hardware goes on in a handler. -/
  | raised (e : Exception)
  /-- An executed load, store or store conditional of `size` bytes whose address is no multiple of `size` or whose
  bytes pass `2^32` (R33). Safe: the hardware raises an exception the spec does not describe. -/
  | misalignedAccess (addr : Word) (size : Nat)
  deriving DecidableEq, Repr

/-- The reasons of R324 why a packet is ill formed. -/
inductive PacketReason where
  /-- Fewer than 1 or more than `MAXPKT` instructions (R51). -/
  | size
  /-- A line is no instruction of the spec (D27, R523). -/
  | noRule
  /-- A guard `Pu.new` or `!Pu.new` without a producer of `Pu`, or with quadruple transfers only (R311, D38). -/
  | newWithoutProducer
  /-- Two writers of one predicate register of which one may not share it (R306, R308, R323). -/
  | sharedPredicate
  /-- A quadruple transfer beside another predicate writer (R308). -/
  | quadrupleGrouped
  /-- Two writers of one general register that are not both guarded (R320, D31). -/
  | doubleWrite
  /-- More than one jump, call or return (D29). -/
  | twoTransfers
  /-- More than two memory instructions (R44). -/
  | memoryInstructions
  /-- An instruction whose switch is off (D13, D30). -/
  | switchedOff
  deriving DecidableEq, Repr

/-- The refusals (R617): the model declines to say what the hardware does. All are safe: no next state. -/
inductive Refusal where
  /-- An instruction that has no meaning yet. No arm of `exec` answers with it. -/
  | notModelled (mnemonic : String)
  /-- The pc is neither `HALT_PC` nor the address of a packet, or the advance of the pc would pass `2^32`
  (R300, R19, U22). Raised by the packet step. -/
  | noPacketAtPc
  /-- The static checks of the packet fail (R324). Raised by the packet step. -/
  | illFormedPacket (reason : PacketReason)
  /-- An immediate does not fit its kind (R53). Raised by the packet step. -/
  | immediateOutOfRange
  /-- A jump or call names a label that the program does not define (R210). Raised by the packet step, and by the
  meaning of a jump or call. -/
  | unknownLabel
  /-- Two executed accesses of a packet share a byte and one is a store (R44). Raised by the packet step. -/
  | overlappingPacketAccesses
  /-- The source's `undefined`: a `.new` guard where the packet generates no value of the register (R311, U1). Raised
  by the meanings of the `.new` forms. -/
  | undefinedNewPredicate
  /-- Not a failure: the run has ended at `HALT_PC` and no packet executes (R300 phase 0, R704; entry 31). -/
  | runEnded
  deriving DecidableEq, Repr

/-- The outcome of an instruction or of a step. -/
abbrev Result := Host.Outcome State Fault Refusal

/-! ### Reset -/

/-- The bits that the spec's default `ClassBit` gives the classes (R140, D15; entry 19). -/
def ClassBits.default : ClassBits :=
  { zero := 0, normal := 1, subnormal := 2, infinite := 3, nan := 4, distinct := by decide }

/-- The launch parameters before a launch has chosen any: no program, no `HALT_PC`, no denial, every switch off, the
defaults of R4 (entries 3, 4, 11, 19, 20, 21, 26, 31, 36). -/
def Launch.default : Launch :=
  { packets := [], haltPc := Option.none, denied := [], tlbmatchOn := false, gkOn := false, autoAndLogical := false,
    autoAndOther := false, classBits := ClassBits.default, bounds := OpenFunction.default,
    tstbitWide := OpenFunction.default }

/-- The machine after reset (R23, R700). `resv` is `none` as the spec says. The registers, for which the source gives
no value, and the pc, whose parameter `RESET_PC` is OPEN, hold zero (DESIGN CHOICE, entries 5 and 6). -/
def State.reset : State :=
  { regs := Vector.replicate 32 0#32, preds := Vector.replicate 4 0#8, pc := 0#32, mem := [], resv := Option.none,
    pkt := PacketLocal.none, launch := Launch.default, tick := 0 }

end Sys2Proof.Machine
end

