-- ==== Sys2Proof/Machine/Ops.lean ====
section
/-!
DEFINITION. The named operations over registers, memory and packet effects that the meanings share (`spec/00_scope.md`
rules R6, R7; `spec/20_memory.md`; `spec/42_packet_predicate_rules.md` rules R300, R301), and the raising of an
exception (`spec/60_exceptions.md` rules R603, R605). Every read is a read of the state at packet start: an instruction
only records what it would write (R301), and the packet step commits the records (R300 phase 5).
-/

namespace Sys2Proof.Machine

/-! ### Reading registers (R6) -/

/-- `R[r]`. -/
def State.reg (s : State) (r : GReg) : Word := s.regs[r.val]

/-- The even register of a pair (R11). -/
def evenReg (k : PairReg) : GReg := ⟨2 * k.val, by omega⟩

/-- The odd register of a pair (R11). -/
def oddReg (k : PairReg) : GReg := ⟨2 * k.val + 1, by omega⟩

/-- `RR[2k]`: the odd register is the high word (R6, R11). -/
def State.pair (s : State) (k : PairReg) : DWord := s.reg (oddReg k) ++ s.reg (evenReg k)

/-- `P[p]`. -/
def State.pred (s : State) (p : PReg) : Byte := s.preds[p.val]

/-- `P3:0`: `P0` in bits 7:0 up to `P3` in bits 31:24 (R17). -/
def State.quad (s : State) : Word := s.pred 3 ++ s.pred 2 ++ s.pred 1 ++ s.pred 0

/-- `new.P[p]`, if the packet generates one (R310). -/
def State.newPred (s : State) (p : PReg) : Option Byte := s.pkt.newP[p.val]

/-! ### Recording effects (R300 phase 3) -/

/-- The state with its packet effects changed. -/
def State.withEffects (s : State) (e : Effects) : State := { s with pkt := { s.pkt with effects := e } }

/-- `R[r] <- v`. -/
def State.recordReg (s : State) (r : GReg) (v : Word) : State :=
  s.withEffects { s.pkt.effects with regs := s.pkt.effects.regs ++ [(r, v)] }

/-- `RR[k] <- v`: the low word to the even register, the high word to the odd one (R6). -/
def State.recordPair (s : State) (k : PairReg) (v : DWord) : State :=
  (s.recordReg (evenReg k) (v.extractLsb' 0 32)).recordReg (oddReg k) (v.extractLsb' 32 32)

/-- A predicate result `v` for `P[p]`, which reaches the register through the commit (R303). -/
def State.recordPred (s : State) (p : PReg) (v : Byte) : State :=
  s.withEffects { s.pkt.effects with preds := s.pkt.effects.preds ++ [(p, v)] }

/-- The four predicate results of a quadruple transfer (R520). -/
def State.recordQuad (s : State) (v : Word) : State :=
  (((s.recordPred 0 (v.extractLsb' 0 8)).recordPred 1 (v.extractLsb' 8 8)).recordPred 2
    (v.extractLsb' 16 8)).recordPred 3 (v.extractLsb' 24 8)

/-- An executed load of `n` bytes at `a`. -/
def State.recordLoad (s : State) (a : Word) (n : Nat) : State :=
  s.withEffects { s.pkt.effects with loads := s.pkt.effects.loads ++ [{ addr := a, size := n }] }

/-- An executed store of the given bytes at `a`. -/
def State.recordStore (s : State) (a : Word) (bytes : List Byte) : State :=
  s.withEffects { s.pkt.effects with stores := s.pkt.effects.stores ++ [{ addr := a, bytes := bytes }] }

/-- `pc <- target`. -/
def State.recordTarget (s : State) (target : Word) : State :=
  s.withEffects { s.pkt.effects with target := some target }

/-- `resv <- none` (R40). -/
def State.recordClearResv (s : State) : State :=
  s.withEffects { s.pkt.effects with clearsResv := true }

/-! ### Memory (R30 to R36) -/

/-- The byte written at an address, if one has been. -/
def Memory.find (m : Memory) (a : Nat) : Option Byte :=
  match m with
  | [] => none
  | (b, v) :: rest => if a = b then some v else Memory.find rest a

/-- Write one byte, keeping the addresses strictly rising. -/
def Memory.put (m : Memory) (a : Nat) (v : Byte) : Memory :=
  match m with
  | [] => [(a, v)]
  | (b, w) :: rest =>
    if a < b then (a, v) :: (b, w) :: rest
    else if a = b then (a, v) :: rest
    else (b, w) :: Memory.put rest a v

/-- Write bytes at consecutive addresses. -/
def Memory.putBytes (m : Memory) (a : Nat) : List Byte → Memory
  | [] => m
  | v :: vs => Memory.putBytes (m.put a v) (a + 1) vs

/-- The canonical form: addresses strictly rising and below `2^32`. -/
def Memory.wf : Memory → Bool
  | [] => true
  | [(a, _)] => decide (a < 2 ^ 32)
  | (a, _) :: (b, w) :: rest => decide (a < b) && Memory.wf ((b, w) :: rest)

/-- What the machine reads at an address: the byte written last, or a draw (R36). -/
def State.byteAt (s : State) (a : Nat) : Byte := (s.mem.find a).getD (Config.unwrittenByte s.tick a)

/-- The little-endian value of the `n` bytes at `a` (R32). -/
def State.valueAt (s : State) (a : Nat) : Nat → Nat
  | 0 => 0
  | n + 1 => (s.byteAt a).toNat + 256 * s.valueAt (a + 1) n

/-- `MemRead(a, n)` as a value of `w` bits, `w = 8 * n` (R32). -/
def State.load (s : State) (a : Word) (n w : Nat) : BitVec w := BitVec.ofNat w (s.valueAt a.toNat n)

/-- The `n` bytes of a value, least significant first (R32). -/
def littleBytes {w : Nat} (v : BitVec w) (n : Nat) : List Byte := (List.range n).map fun i => v.extractLsb' (8 * i) 8

/-- `MemAdmit(a, n, kind)` (R34). -/
def State.permits (s : State) (a : Word) (n : Nat) (kind : AccessKind) : Bool :=
  !s.launch.denied.any fun d =>
    d.kind == kind && d.size == n && decide (d.first ≤ a.toNat) && decide (a.toNat ≤ d.last)

/-- The alignment rule of R33. -/
def aligned (a : Word) (n : Nat) : Bool := decide (a.toNat % n = 0) && decide (a.toNat + n ≤ 2 ^ 32)

/-! ### Raising an exception (R600, R603, R605) -/

/-- Taking an exception, as far as the spec describes it: `raise E(info)` is a terminal outcome that carries the
exception and leaves the state as it was (R603, R605, D9). The entry sequence is the OPEN parameter `TrapEntry`, which
"this spec never applies", and no rule gives a return from an exception (R608); entry 12. -/
def raise (e : Exception) : Result := .fault (.raised e)

/-- The cause code of an exception, where the spec names a parameter for it (R601, R602; `93` U3). -/
def Exception.cause : Exception → Option Byte
  | .multipleWriteError _ _ => some Config.causeMultiWrite
  | .memoryPermissionViolation _ _ => none

/-! ### Memory accesses of an executed instruction -/

/-- The checks before an access, alignment first (R33, R34, R40); then the access. -/
def checked (a : Word) (n : Nat) (kind : AccessKind) (access : State → Result) (s : State) : Result :=
  if aligned a n then
    if s.permits a n kind then access s else raise (.memoryPermissionViolation a kind)
  else .fault (.misalignedAccess a n)

/-- An executed load of `n` bytes at `a`, whose effect is `k` (R213 to R215). -/
def loading (a : Word) (n : Nat) (k : State → State) (s : State) : Result :=
  checked a n .read (fun s => .next (k (s.recordLoad a n))) s

/-- An executed store at `a` of the low `n` bytes of `v` (R216 to R218). -/
def storing {w : Nat} (a : Word) (n : Nat) (v : BitVec w) (s : State) : Result :=
  checked a n .write (fun s => .next (s.recordStore a (littleBytes v n))) s

/-- The bytes of a reservation. -/
def ResvSize.bytes : ResvSize → Nat
  | .word => 4
  | .dword => 8

/-- Whether a store conditional at `a` performs its store: the draw `ScOutcome`, which can be success only if the
reservation matches (R40, U14). -/
def State.scSucceeds (s : State) (a : Word) (size : ResvSize) (pd : PReg) : Bool :=
  decide (s.resv = some { addr := a, size := size }) && Config.scOutcome s.tick pd.val

/-- `StoreConditional(EA, n, v, d)` (R40): `TV(ok)` is the predicate result, and the reservation is cleared. -/
def storeConditional {w : Nat} (a : Word) (size : ResvSize) (v : BitVec w) (pd : PReg) (s : State) : Result :=
  checked a size.bytes .write
    (fun s =>
      if s.scSucceeds a size pd then
        .next (((s.recordStore a (littleBytes v size.bytes)).recordClearResv).recordPred pd 0xFF#8)
      else .next (s.recordClearResv.recordPred pd 0x00#8))
    s

/-! ### Control transfer (R210 to R212, R304) -/

/-- The address of a label: that of the first packet that carries it (R60, R210). -/
def Launch.labelAddr (l : Launch) (name : Label) : Option Word :=
  (l.packets.find? fun p => p.labels.contains name).map PacketText.addr

/-- The address of the packet after this one, `pc + INSN_BYTES * n` modulo `2^32` (R5, R211). -/
def State.returnAddress (s : State) : Word := s.pc + BitVec.ofNat 32 (Config.insnBytes * s.pkt.size)

/-- Go on with the address of a label, or refuse an unknown one (R210). -/
def withLabel (name : Label) (k : Word → State → Result) (s : State) : Result :=
  match s.launch.labelAddr name with
  | some a => k a s
  | none => .refused .unknownLabel

end Sys2Proof.Machine
end

