-- ==== Sys2Proof/Machine/Operands.lean ====
section
/-!
DEFINITION. The operand forms: guards (`spec/41_conditional_instructions.md` rules R200, R201), immediates, parts of
registers and vector lanes (`spec/00_scope.md` rules R5, R8; `spec/43_vector_predicates.md`).
-/

namespace Sys2Proof.Machine

/-! ### Guards -/

/-- `lsb(p)`: a scalar consumer examines only the least-significant bit (R14, R200). -/
def lsb (p : Byte) : Bool := p.getLsbD 0

/-- The value of a predicate expression (R200). A `.new` form has none where the packet generates no value of its
register (R311). -/
def State.guardValue (s : State) : Guard → Option Bool
  | .ifT pu => some (lsb (s.pred pu))
  | .ifF pu => some (!lsb (s.pred pu))
  | .ifTnew pu => (s.newPred pu).map lsb
  | .ifFnew pu => (s.newPred pu).map fun v => !lsb v

/-- `if (g) op`: execute `op` if the guard is true; otherwise nothing happens (R201, R202, R604). -/
def guarded (g : Guard) (op : State → Result) (s : State) : Result :=
  match s.guardValue g with
  | some true => op s
  | some false => .next s
  | none => .refused .undefinedNewPredicate

/-! ### Immediates -/

/-- An immediate as a 32-bit operand: `sext_32` of an `#sN` value, `zext_32` of a `#uN` value (R8, R53). -/
def immWord (n : Int) : Word := BitVec.ofInt 32 n

/-- An `#sN` immediate extended to 16 bits (R104). -/
def immHalf (n : Int) : Half := BitVec.ofInt 16 n

/-! ### Parts of a register -/

/-- `v[7:0]`. -/
def lowByte (v : Word) : Byte := v.extractLsb' 0 8

/-- `v[15:0]`. -/
def lowHalf (v : Word) : Half := v.extractLsb' 0 16

/-- `v[31:16]`. -/
def highHalf (v : Word) : Half := v.extractLsb' 16 16

/-! ### Vector lanes -/

/-- Byte lane `i` of a 64-bit value, lane 0 least significant (R401). -/
def byteLane (v : DWord) (i : Nat) : Byte := v.extractLsb' (8 * i) 8

/-- Halfword lane `i` (R402). -/
def halfLane (v : DWord) (i : Nat) : Half := v.extractLsb' (16 * i) 16

/-- Word lane `i` (R403). -/
def wordLane (v : DWord) (i : Nat) : Word := v.extractLsb' (32 * i) 32

/-- The 64-bit value whose byte lane `i` is `f i` (R405). -/
def ofByteLanes (f : Nat → Byte) : DWord := f 7 ++ f 6 ++ f 5 ++ f 4 ++ f 3 ++ f 2 ++ f 1 ++ f 0

/-- The predicate whose bit `i` is `f i`. -/
def predOfBits (f : Nat → Bool) : Byte := BitVec.ofFnLE fun i : Fin 8 => f i.val

end Sys2Proof.Machine
end

