-- ==== Sys2Proof/Machine/Alu.lean ====
section
/-!
DEFINITION. The meanings of the integer operations that can be conditional, and `mux`
(`spec/41_conditional_instructions.md` rules R219 to R230, R232 to R235).
-/

namespace Sys2Proof.Machine

/-- `Rd = add(Rs,Rt)` (R219). -/
def execAddRr (rd rs rt : GReg) (s : State) : Result := .next (s.recordReg rd (s.reg rs + s.reg rt))

/-- `if (Pu) Rd = add(Rs,Rt)` (R219, R200, R201). -/
def execAddRrIfT (pu : PReg) (rd rs rt : GReg) (s : State) : Result := guarded (.ifT pu) (execAddRr rd rs rt) s

/-- `if (!Pu) Rd = add(Rs,Rt)` (R219, R200, R201). -/
def execAddRrIfF (pu : PReg) (rd rs rt : GReg) (s : State) : Result := guarded (.ifF pu) (execAddRr rd rs rt) s

/-- `if (Pu.new) Rd = add(Rs,Rt)` (R219, R200, R201). -/
def execAddRrIfTnew (pu : PReg) (rd rs rt : GReg) (s : State) : Result := guarded (.ifTnew pu) (execAddRr rd rs rt) s

/-- `if (!Pu.new) Rd = add(Rs,Rt)` (R219, R200, R201). -/
def execAddRrIfFnew (pu : PReg) (rd rs rt : GReg) (s : State) : Result := guarded (.ifFnew pu) (execAddRr rd rs rt) s

/-- `Rd = add(Rs,#s16)` (R220). -/
def execAddRi (rd rs : GReg) (imm : Int) (s : State) : Result := .next (s.recordReg rd (s.reg rs + immWord imm))

/-- `if (Pu) Rd = add(Rs,#s8)` (R220, R200, R201). -/
def execAddRiIfT (pu : PReg) (rd rs : GReg) (imm : Int) (s : State) : Result :=
  guarded (.ifT pu) (execAddRi rd rs imm) s

/-- `if (!Pu) Rd = add(Rs,#s8)` (R220, R200, R201). -/
def execAddRiIfF (pu : PReg) (rd rs : GReg) (imm : Int) (s : State) : Result :=
  guarded (.ifF pu) (execAddRi rd rs imm) s

/-- `if (Pu.new) Rd = add(Rs,#s8)` (R220, R200, R201). -/
def execAddRiIfTnew (pu : PReg) (rd rs : GReg) (imm : Int) (s : State) : Result :=
  guarded (.ifTnew pu) (execAddRi rd rs imm) s

/-- `if (!Pu.new) Rd = add(Rs,#s8)` (R220, R200, R201). -/
def execAddRiIfFnew (pu : PReg) (rd rs : GReg) (imm : Int) (s : State) : Result :=
  guarded (.ifFnew pu) (execAddRi rd rs imm) s

/-- `Rd = sub(Rt,Rs)` (R221); first operand minus second. -/
def execSubRr (rd rt rs : GReg) (s : State) : Result := .next (s.recordReg rd (s.reg rt - s.reg rs))

/-- `if (Pu) Rd = sub(Rt,Rs)` (R221, R200, R201). -/
def execSubRrIfT (pu : PReg) (rd rt rs : GReg) (s : State) : Result := guarded (.ifT pu) (execSubRr rd rt rs) s

/-- `if (!Pu) Rd = sub(Rt,Rs)` (R221, R200, R201). -/
def execSubRrIfF (pu : PReg) (rd rt rs : GReg) (s : State) : Result := guarded (.ifF pu) (execSubRr rd rt rs) s

/-- `if (Pu.new) Rd = sub(Rt,Rs)` (R221, R200, R201). -/
def execSubRrIfTnew (pu : PReg) (rd rt rs : GReg) (s : State) : Result := guarded (.ifTnew pu) (execSubRr rd rt rs) s

/-- `if (!Pu.new) Rd = sub(Rt,Rs)` (R221, R200, R201). -/
def execSubRrIfFnew (pu : PReg) (rd rt rs : GReg) (s : State) : Result := guarded (.ifFnew pu) (execSubRr rd rt rs) s

/-- `Rd = and(Rs,Rt)` (R222). -/
def execAndRr (rd rs rt : GReg) (s : State) : Result := .next (s.recordReg rd (s.reg rs &&& s.reg rt))

/-- `if (Pu) Rd = and(Rs,Rt)` (R222, R200, R201). -/
def execAndRrIfT (pu : PReg) (rd rs rt : GReg) (s : State) : Result := guarded (.ifT pu) (execAndRr rd rs rt) s

/-- `if (!Pu) Rd = and(Rs,Rt)` (R222, R200, R201). -/
def execAndRrIfF (pu : PReg) (rd rs rt : GReg) (s : State) : Result := guarded (.ifF pu) (execAndRr rd rs rt) s

/-- `if (Pu.new) Rd = and(Rs,Rt)` (R222, R200, R201). -/
def execAndRrIfTnew (pu : PReg) (rd rs rt : GReg) (s : State) : Result := guarded (.ifTnew pu) (execAndRr rd rs rt) s

/-- `if (!Pu.new) Rd = and(Rs,Rt)` (R222, R200, R201). -/
def execAndRrIfFnew (pu : PReg) (rd rs rt : GReg) (s : State) : Result := guarded (.ifFnew pu) (execAndRr rd rs rt) s

/-- `Rd = or(Rs,Rt)` (R223). -/
def execOrRr (rd rs rt : GReg) (s : State) : Result := .next (s.recordReg rd (s.reg rs ||| s.reg rt))

/-- `if (Pu) Rd = or(Rs,Rt)` (R223, R200, R201). -/
def execOrRrIfT (pu : PReg) (rd rs rt : GReg) (s : State) : Result := guarded (.ifT pu) (execOrRr rd rs rt) s

/-- `if (!Pu) Rd = or(Rs,Rt)` (R223, R200, R201). -/
def execOrRrIfF (pu : PReg) (rd rs rt : GReg) (s : State) : Result := guarded (.ifF pu) (execOrRr rd rs rt) s

/-- `if (Pu.new) Rd = or(Rs,Rt)` (R223, R200, R201). -/
def execOrRrIfTnew (pu : PReg) (rd rs rt : GReg) (s : State) : Result := guarded (.ifTnew pu) (execOrRr rd rs rt) s

/-- `if (!Pu.new) Rd = or(Rs,Rt)` (R223, R200, R201). -/
def execOrRrIfFnew (pu : PReg) (rd rs rt : GReg) (s : State) : Result := guarded (.ifFnew pu) (execOrRr rd rs rt) s

/-- `Rd = xor(Rs,Rt)` (R224). -/
def execXorRr (rd rs rt : GReg) (s : State) : Result := .next (s.recordReg rd (s.reg rs ^^^ s.reg rt))

/-- `if (Pu) Rd = xor(Rs,Rt)` (R224, R200, R201). -/
def execXorRrIfT (pu : PReg) (rd rs rt : GReg) (s : State) : Result := guarded (.ifT pu) (execXorRr rd rs rt) s

/-- `if (!Pu) Rd = xor(Rs,Rt)` (R224, R200, R201). -/
def execXorRrIfF (pu : PReg) (rd rs rt : GReg) (s : State) : Result := guarded (.ifF pu) (execXorRr rd rs rt) s

/-- `if (Pu.new) Rd = xor(Rs,Rt)` (R224, R200, R201). -/
def execXorRrIfTnew (pu : PReg) (rd rs rt : GReg) (s : State) : Result := guarded (.ifTnew pu) (execXorRr rd rs rt) s

/-- `if (!Pu.new) Rd = xor(Rs,Rt)` (R224, R200, R201). -/
def execXorRrIfFnew (pu : PReg) (rd rs rt : GReg) (s : State) : Result := guarded (.ifFnew pu) (execXorRr rd rs rt) s

/-- `Rd = aslh(Rs)` (R225). -/
def execAslh (rd rs : GReg) (s : State) : Result := .next (s.recordReg rd (lowHalf (s.reg rs) ++ 0#16))

/-- `if (Pu) Rd = aslh(Rs)` (R225, R200, R201). -/
def execAslhIfT (pu : PReg) (rd rs : GReg) (s : State) : Result := guarded (.ifT pu) (execAslh rd rs) s

/-- `if (!Pu) Rd = aslh(Rs)` (R225, R200, R201). -/
def execAslhIfF (pu : PReg) (rd rs : GReg) (s : State) : Result := guarded (.ifF pu) (execAslh rd rs) s

/-- `if (Pu.new) Rd = aslh(Rs)` (R225, R200, R201). -/
def execAslhIfTnew (pu : PReg) (rd rs : GReg) (s : State) : Result := guarded (.ifTnew pu) (execAslh rd rs) s

/-- `if (!Pu.new) Rd = aslh(Rs)` (R225, R200, R201). -/
def execAslhIfFnew (pu : PReg) (rd rs : GReg) (s : State) : Result := guarded (.ifFnew pu) (execAslh rd rs) s

/-- `Rd = asrh(Rs)` (R226). -/
def execAsrh (rd rs : GReg) (s : State) : Result := .next (s.recordReg rd ((highHalf (s.reg rs)).signExtend 32))

/-- `if (Pu) Rd = asrh(Rs)` (R226, R200, R201). -/
def execAsrhIfT (pu : PReg) (rd rs : GReg) (s : State) : Result := guarded (.ifT pu) (execAsrh rd rs) s

/-- `if (!Pu) Rd = asrh(Rs)` (R226, R200, R201). -/
def execAsrhIfF (pu : PReg) (rd rs : GReg) (s : State) : Result := guarded (.ifF pu) (execAsrh rd rs) s

/-- `if (Pu.new) Rd = asrh(Rs)` (R226, R200, R201). -/
def execAsrhIfTnew (pu : PReg) (rd rs : GReg) (s : State) : Result := guarded (.ifTnew pu) (execAsrh rd rs) s

/-- `if (!Pu.new) Rd = asrh(Rs)` (R226, R200, R201). -/
def execAsrhIfFnew (pu : PReg) (rd rs : GReg) (s : State) : Result := guarded (.ifFnew pu) (execAsrh rd rs) s

/-- `Rd = sxtb(Rs)` (R227). -/
def execSxtb (rd rs : GReg) (s : State) : Result := .next (s.recordReg rd ((lowByte (s.reg rs)).signExtend 32))

/-- `if (Pu) Rd = sxtb(Rs)` (R227, R200, R201). -/
def execSxtbIfT (pu : PReg) (rd rs : GReg) (s : State) : Result := guarded (.ifT pu) (execSxtb rd rs) s

/-- `if (!Pu) Rd = sxtb(Rs)` (R227, R200, R201). -/
def execSxtbIfF (pu : PReg) (rd rs : GReg) (s : State) : Result := guarded (.ifF pu) (execSxtb rd rs) s

/-- `if (Pu.new) Rd = sxtb(Rs)` (R227, R200, R201). -/
def execSxtbIfTnew (pu : PReg) (rd rs : GReg) (s : State) : Result := guarded (.ifTnew pu) (execSxtb rd rs) s

/-- `if (!Pu.new) Rd = sxtb(Rs)` (R227, R200, R201). -/
def execSxtbIfFnew (pu : PReg) (rd rs : GReg) (s : State) : Result := guarded (.ifFnew pu) (execSxtb rd rs) s

/-- `Rd = sxth(Rs)` (R228). -/
def execSxth (rd rs : GReg) (s : State) : Result := .next (s.recordReg rd ((lowHalf (s.reg rs)).signExtend 32))

/-- `if (Pu) Rd = sxth(Rs)` (R228, R200, R201). -/
def execSxthIfT (pu : PReg) (rd rs : GReg) (s : State) : Result := guarded (.ifT pu) (execSxth rd rs) s

/-- `if (!Pu) Rd = sxth(Rs)` (R228, R200, R201). -/
def execSxthIfF (pu : PReg) (rd rs : GReg) (s : State) : Result := guarded (.ifF pu) (execSxth rd rs) s

/-- `if (Pu.new) Rd = sxth(Rs)` (R228, R200, R201). -/
def execSxthIfTnew (pu : PReg) (rd rs : GReg) (s : State) : Result := guarded (.ifTnew pu) (execSxth rd rs) s

/-- `if (!Pu.new) Rd = sxth(Rs)` (R228, R200, R201). -/
def execSxthIfFnew (pu : PReg) (rd rs : GReg) (s : State) : Result := guarded (.ifFnew pu) (execSxth rd rs) s

/-- `Rd = zxtb(Rs)` (R229). -/
def execZxtb (rd rs : GReg) (s : State) : Result := .next (s.recordReg rd ((lowByte (s.reg rs)).setWidth 32))

/-- `if (Pu) Rd = zxtb(Rs)` (R229, R200, R201). -/
def execZxtbIfT (pu : PReg) (rd rs : GReg) (s : State) : Result := guarded (.ifT pu) (execZxtb rd rs) s

/-- `if (!Pu) Rd = zxtb(Rs)` (R229, R200, R201). -/
def execZxtbIfF (pu : PReg) (rd rs : GReg) (s : State) : Result := guarded (.ifF pu) (execZxtb rd rs) s

/-- `if (Pu.new) Rd = zxtb(Rs)` (R229, R200, R201). -/
def execZxtbIfTnew (pu : PReg) (rd rs : GReg) (s : State) : Result := guarded (.ifTnew pu) (execZxtb rd rs) s

/-- `if (!Pu.new) Rd = zxtb(Rs)` (R229, R200, R201). -/
def execZxtbIfFnew (pu : PReg) (rd rs : GReg) (s : State) : Result := guarded (.ifFnew pu) (execZxtb rd rs) s

/-- `Rd = zxth(Rs)` (R230). -/
def execZxth (rd rs : GReg) (s : State) : Result := .next (s.recordReg rd ((lowHalf (s.reg rs)).setWidth 32))

/-- `if (Pu) Rd = zxth(Rs)` (R230, R200, R201). -/
def execZxthIfT (pu : PReg) (rd rs : GReg) (s : State) : Result := guarded (.ifT pu) (execZxth rd rs) s

/-- `if (!Pu) Rd = zxth(Rs)` (R230, R200, R201). -/
def execZxthIfF (pu : PReg) (rd rs : GReg) (s : State) : Result := guarded (.ifF pu) (execZxth rd rs) s

/-- `if (Pu.new) Rd = zxth(Rs)` (R230, R200, R201). -/
def execZxthIfTnew (pu : PReg) (rd rs : GReg) (s : State) : Result := guarded (.ifTnew pu) (execZxth rd rs) s

/-- `if (!Pu.new) Rd = zxth(Rs)` (R230, R200, R201). -/
def execZxthIfFnew (pu : PReg) (rd rs : GReg) (s : State) : Result := guarded (.ifFnew pu) (execZxth rd rs) s

/-- `Rd = Rs` (R233). -/
def execTfr (rd rs : GReg) (s : State) : Result := .next (s.recordReg rd (s.reg rs))

/-- `if (Pu) Rd = Rs` (R233, R200, R201). -/
def execTfrIfT (pu : PReg) (rd rs : GReg) (s : State) : Result := guarded (.ifT pu) (execTfr rd rs) s

/-- `if (!Pu) Rd = Rs` (R233, R200, R201). -/
def execTfrIfF (pu : PReg) (rd rs : GReg) (s : State) : Result := guarded (.ifF pu) (execTfr rd rs) s

/-- `if (Pu.new) Rd = Rs` (R233, R200, R201). -/
def execTfrIfTnew (pu : PReg) (rd rs : GReg) (s : State) : Result := guarded (.ifTnew pu) (execTfr rd rs) s

/-- `if (!Pu.new) Rd = Rs` (R233, R200, R201). -/
def execTfrIfFnew (pu : PReg) (rd rs : GReg) (s : State) : Result := guarded (.ifFnew pu) (execTfr rd rs) s

/-- `Rdd = combine(Rs,Rt)` (R234); the first operand is the high word. -/
def execCombine (rdd : PairReg) (rs rt : GReg) (s : State) : Result := .next (s.recordPair rdd (s.reg rs ++ s.reg rt))

/-- `if (Pu) Rdd = combine(Rs,Rt)` (R234, R200, R201). -/
def execCombineIfT (pu : PReg) (rdd : PairReg) (rs rt : GReg) (s : State) : Result :=
  guarded (.ifT pu) (execCombine rdd rs rt) s

/-- `if (!Pu) Rdd = combine(Rs,Rt)` (R234, R200, R201). -/
def execCombineIfF (pu : PReg) (rdd : PairReg) (rs rt : GReg) (s : State) : Result :=
  guarded (.ifF pu) (execCombine rdd rs rt) s

/-- `if (Pu.new) Rdd = combine(Rs,Rt)` (R234, R200, R201). -/
def execCombineIfTnew (pu : PReg) (rdd : PairReg) (rs rt : GReg) (s : State) : Result :=
  guarded (.ifTnew pu) (execCombine rdd rs rt) s

/-- `if (!Pu.new) Rdd = combine(Rs,Rt)` (R234, R200, R201). -/
def execCombineIfFnew (pu : PReg) (rdd : PairReg) (rs rt : GReg) (s : State) : Result :=
  guarded (.ifFnew pu) (execCombine rdd rs rt) s

/-- `Rd = #s16` (R235). -/
def execTfri (rd : GReg) (imm : Int) (s : State) : Result := .next (s.recordReg rd (immWord imm))

/-- `if (Pu) Rd = #s12` (R235, R200, R201). -/
def execTfriIfT (pu : PReg) (rd : GReg) (imm : Int) (s : State) : Result := guarded (.ifT pu) (execTfri rd imm) s

/-- `if (!Pu) Rd = #s12` (R235, R200, R201). -/
def execTfriIfF (pu : PReg) (rd : GReg) (imm : Int) (s : State) : Result := guarded (.ifF pu) (execTfri rd imm) s

/-- `if (Pu.new) Rd = #s12` (R235, R200, R201). -/
def execTfriIfTnew (pu : PReg) (rd : GReg) (imm : Int) (s : State) : Result :=
  guarded (.ifTnew pu) (execTfri rd imm) s

/-- `if (!Pu.new) Rd = #s12` (R235, R200, R201). -/
def execTfriIfFnew (pu : PReg) (rd : GReg) (imm : Int) (s : State) : Result :=
  guarded (.ifFnew pu) (execTfri rd imm) s

/-- `Rd = mux(Ps,Rs,Rt)` (R232); only bit 0 of `Ps` counts. -/
def execMuxRr (rd : GReg) (ps : PReg) (rs rt : GReg) (s : State) : Result :=
  .next (s.recordReg rd (if lsb (s.pred ps) then s.reg rs else s.reg rt))

end Sys2Proof.Machine
end

