-- ==== Sys2Proof/Machine/Flags.lean ====
section
/-!
DEFINITION. The machine's conditions: the scalar truth value (`spec/10_state.md` rule R14), the integer relations of
the compares, floating-point operand reading (`spec/40_scalar_compare.md` rule R157), and the OPEN functions of R140,
R142 and R154. The predicate registers are the only condition codes (R13).
-/

namespace Sys2Proof.Machine

/-- `TV(b)`: 0xFF represents true, 0x00 represents false (R7, R14). -/
def truth (b : Bool) : Byte := if b then 0xFF#8 else 0x00#8

/-! ### Integer relations -/

/-- `s(a) > s(b)`. -/
def gtSigned {w : Nat} (a b : BitVec w) : Bool := decide (a.toInt > b.toInt)

/-- `u(a) > u(b)`. -/
def gtUnsigned {w : Nat} (a b : BitVec w) : Bool := decide (a.toNat > b.toNat)

/-- `s(a) < s(b)`. -/
def ltSigned {w : Nat} (a b : BitVec w) : Bool := decide (a.toInt < b.toInt)

/-- `u(a) < u(b)`. -/
def ltUnsigned {w : Nat} (a b : BitVec w) : Bool := decide (a.toNat < b.toNat)

/-- `s(a) > n`. -/
def gtSignedImm {w : Nat} (a : BitVec w) (n : Int) : Bool := decide (a.toInt > n)

/-- `u(a) > n`. -/
def gtUnsignedImm {w : Nat} (a : BitVec w) (n : Int) : Bool := decide ((a.toNat : Int) > n)

/-- `s(a) >= n`. -/
def geSignedImm {w : Nat} (a : BitVec w) (n : Int) : Bool := decide (a.toInt ≥ n)

/-- `u(a) = n`. -/
def eqUnsignedImm {w : Nat} (a : BitVec w) (n : Int) : Bool := decide ((a.toNat : Int) = n)

/-- `u(a) >= n`. -/
def geUnsignedImm {w : Nat} (a : BitVec w) (n : Int) : Bool := decide ((a.toNat : Int) ≥ n)

/-! ### Floating point (R157, D14; entry 23) -/

/-- A binary interchange format: the widths of its exponent and of its fraction. -/
structure FpFormat where
  expBits : Nat
  fracBits : Nat
  deriving DecidableEq, Repr

/-- binary32, held in a register. -/
def single : FpFormat := { expBits := 8, fracBits := 23 }

/-- binary64, held in a register pair. -/
def double : FpFormat := { expBits := 11, fracBits := 52 }

/-- `frac`. -/
def FpFormat.frac {w : Nat} (f : FpFormat) (x : BitVec w) : Nat := x.toNat % 2 ^ f.fracBits

/-- `exp`. -/
def FpFormat.exp {w : Nat} (f : FpFormat) (x : BitVec w) : Nat := x.toNat / 2 ^ f.fracBits % 2 ^ f.expBits

/-- `sign`. -/
def FpFormat.sign {w : Nat} (f : FpFormat) (x : BitVec w) : Bool := x.getLsbD (f.expBits + f.fracBits)

/-- `EMAX`. -/
def FpFormat.emax (f : FpFormat) : Nat := 2 ^ f.expBits - 1

/-- `isNaN`. -/
def FpFormat.isNaN {w : Nat} (f : FpFormat) (x : BitVec w) : Bool :=
  decide (f.exp x = f.emax) && decide (f.frac x ≠ 0)

/-- The one class that holds of a value. -/
def FpFormat.classOf {w : Nat} (f : FpFormat) (x : BitVec w) : FpClass :=
  if f.exp x = 0 then (if f.frac x = 0 then .zero else .subnormal)
  else if f.exp x = f.emax then (if f.frac x = 0 then .infinite else .nan)
  else .normal

/-- `mag`: the value with the sign bit removed, as an integer. -/
def FpFormat.mag {w : Nat} (f : FpFormat) (x : BitVec w) : Int := ((x.toNat % 2 ^ (f.expBits + f.fracBits) : Nat) : Int)

/-- `key`: orders the values that are no NaN as numbers. -/
def FpFormat.key {w : Nat} (f : FpFormat) (x : BitVec w) : Int := if f.sign x then -(f.mag x) else f.mag x

/-- Neither operand is a NaN. -/
def FpFormat.ordered {w : Nat} (f : FpFormat) (a c : BitVec w) : Bool := !f.isNaN a && !f.isNaN c

/-- Equal as numbers; false if either operand is a NaN (R110). -/
def FpFormat.eq {w : Nat} (f : FpFormat) (a c : BitVec w) : Bool := f.ordered a c && decide (f.key a = f.key c)

/-- Greater; false if either operand is a NaN (R121). -/
def FpFormat.gt {w : Nat} (f : FpFormat) (a c : BitVec w) : Bool := f.ordered a c && decide (f.key a > f.key c)

/-- Greater or equal; false if either operand is a NaN (R133). -/
def FpFormat.ge {w : Nat} (f : FpFormat) (a c : BitVec w) : Bool := f.ordered a c && decide (f.key a ≥ f.key c)

/-- Either operand is a NaN (R138). -/
def FpFormat.uo {w : Nat} (f : FpFormat) (a c : BitVec w) : Bool := f.isNaN a || f.isNaN c

/-- `ClassBit(cls)` (R140). -/
def ClassBits.bit (c : ClassBits) : FpClass → Fin 5
  | .zero => c.zero
  | .normal => c.normal
  | .subnormal => c.subnormal
  | .infinite => c.infinite
  | .nan => c.nan

/-- `u5[ClassBit(cls)] = 1` for the class of a value (R140, R141). -/
def State.inClasses {w : Nat} (s : State) (f : FpFormat) (x : BitVec w) (n : Int) : Bool :=
  (BitVec.ofInt 5 n).getLsbD (s.launch.classBits.bit (f.classOf x)).val

/-! ### Bit tests and ranges -/

/-- Bit `k` of a register, `k` a bit position 0 to 31 (R144). -/
def bitAt (x : Word) (k : Int) : Bool := x.getLsbD k.toNat

/-- The default `TstbitWide`: `Rt[6:0]` is a signed amount `k`; bit `k` if it lies in 0 to 31, else false (R142). -/
def tstbitWideDefault (x t : Word) : Bool :=
  let k := (t.extractLsb' 0 7).toInt
  decide (0 ≤ k) && decide (k ≤ 31) && x.getLsbD k.toNat

/-- The bit that `tstbit(Rs,Rt)` tests (R142): bit `u(Rt)` if that is at most 31, else `TstbitWide`. -/
def State.testBit (s : State) (x t : Word) : Bool :=
  if t.toNat ≤ 31 then x.getLsbD t.toNat
  else
    match s.launch.tstbitWide with
    | .default => tstbitWideDefault x t
    | .other => Config.tstbitWideOther x t

/-- All bits of the mask are clear (R146). -/
def bitsClear (x mask : Word) : Bool := decide (x &&& mask = 0#32)

/-- All bits of the mask are set (R150). -/
def bitsSet (x mask : Word) : Bool := decide (x &&& mask = mask)

/-- The default `BoundsCheck`: unsigned, the even register the inclusive lower bound, the odd one the exclusive upper
bound (R154). -/
def boundsDefault (x : Word) (r : DWord) : Bool :=
  decide ((wordLane r 0).toNat ≤ x.toNat) && decide (x.toNat < (wordLane r 1).toNat)

/-- `BoundsCheck(x, r)` (R154). -/
def State.inBounds (s : State) (x : Word) (r : DWord) : Bool :=
  match s.launch.bounds with
  | .default => boundsDefault x r
  | .other => Config.boundsCheckOther x r

end Sys2Proof.Machine
end

