-- ==== Sys2Proof/Machine/BitTest.lean ====
section
/-!
DEFINITION. The meanings of the bit tests (`spec/40_scalar_compare.md` rules R142 to R151).
-/

namespace Sys2Proof.Machine

/-- `Pd = tstbit(Rs,Rt)` (R142); a position above 31 goes to `TstbitWide` (entry 21). -/
def execTstbitRr (pd : PReg) (rs rt : GReg) (s : State) : Result :=
  .next (s.recordPred pd (truth (s.testBit (s.reg rs) (s.reg rt))))

/-- `Pd = !tstbit(Rs,Rt)` (R143); a position above 31 goes to `TstbitWide` (entry 21). -/
def execNtstbitRr (pd : PReg) (rs rt : GReg) (s : State) : Result :=
  .next (s.recordPred pd (truth (!s.testBit (s.reg rs) (s.reg rt))))

/-- `Pd = tstbit(Rs,#u5)` (R144). -/
def execTstbitRi (pd : PReg) (rs : GReg) (imm : Int) (s : State) : Result :=
  .next (s.recordPred pd (truth (bitAt (s.reg rs) imm)))

/-- `Pd = !tstbit(Rs,#u5)` (R145). -/
def execNtstbitRi (pd : PReg) (rs : GReg) (imm : Int) (s : State) : Result :=
  .next (s.recordPred pd (truth (!bitAt (s.reg rs) imm)))

/-- `Pd = bitsclr(Rs,Rt)` (R146). -/
def execBitsclrRr (pd : PReg) (rs rt : GReg) (s : State) : Result :=
  .next (s.recordPred pd (truth (bitsClear (s.reg rs) (s.reg rt))))

/-- `Pd = !bitsclr(Rs,Rt)` (R147). -/
def execNbitsclrRr (pd : PReg) (rs rt : GReg) (s : State) : Result :=
  .next (s.recordPred pd (truth (!bitsClear (s.reg rs) (s.reg rt))))

/-- `Pd = bitsclr(Rs,#u6)` (R148). -/
def execBitsclrRi (pd : PReg) (rs : GReg) (imm : Int) (s : State) : Result :=
  .next (s.recordPred pd (truth (bitsClear (s.reg rs) (immWord imm))))

/-- `Pd = !bitsclr(Rs,#u6)` (R149). -/
def execNbitsclrRi (pd : PReg) (rs : GReg) (imm : Int) (s : State) : Result :=
  .next (s.recordPred pd (truth (!bitsClear (s.reg rs) (immWord imm))))

/-- `Pd = bitsset(Rs,Rt)` (R150). -/
def execBitssetRr (pd : PReg) (rs rt : GReg) (s : State) : Result :=
  .next (s.recordPred pd (truth (bitsSet (s.reg rs) (s.reg rt))))

/-- `Pd = !bitsset(Rs,Rt)` (R151). -/
def execNbitssetRr (pd : PReg) (rs rt : GReg) (s : State) : Result :=
  .next (s.recordPred pd (truth (!bitsSet (s.reg rs) (s.reg rt))))

end Sys2Proof.Machine
end

