-- ==== Sys2Proof/Machine/Compare.lean ====
section
/-!
DEFINITION. The meanings of the integer compares (`spec/40_scalar_compare.md` rules R101 to R109, R112 to R120, R123
to R132, R135 to R137, R156).
-/

namespace Sys2Proof.Machine

/-- `Pd = cmpb.eq(Rs,Rt)` (R101). -/
def execCmpbEqRr (pd : PReg) (rs rt : GReg) (s : State) : Result :=
  .next (s.recordPred pd (truth (decide (lowByte (s.reg rs) = lowByte (s.reg rt)))))

/-- `Pd = cmpb.eq(Rs,#u8)` (R102); the immediate is unsigned (C2). -/
def execCmpbEqRi (pd : PReg) (rs : GReg) (imm : Int) (s : State) : Result :=
  .next (s.recordPred pd (truth (eqUnsignedImm (lowByte (s.reg rs)) imm)))

/-- `Pd = cmph.eq(Rs,Rt)` (R103). -/
def execCmphEqRr (pd : PReg) (rs rt : GReg) (s : State) : Result :=
  .next (s.recordPred pd (truth (decide (lowHalf (s.reg rs) = lowHalf (s.reg rt)))))

/-- `Pd = cmph.eq(Rs,#s8)` (R104). -/
def execCmphEqRi (pd : PReg) (rs : GReg) (imm : Int) (s : State) : Result :=
  .next (s.recordPred pd (truth (decide (lowHalf (s.reg rs) = immHalf imm))))

/-- `Pd = cmp.eq(Rs,Rt)` (R105). -/
def execCmpEqRr (pd : PReg) (rs rt : GReg) (s : State) : Result :=
  .next (s.recordPred pd (truth (decide (s.reg rs = s.reg rt))))

/-- `Pd = !cmp.eq(Rs,Rt)` (R106). -/
def execNcmpEqRr (pd : PReg) (rs rt : GReg) (s : State) : Result :=
  .next (s.recordPred pd (truth (!decide (s.reg rs = s.reg rt))))

/-- `Pd = cmp.eq(Rs,#s10)` (R107). -/
def execCmpEqRi (pd : PReg) (rs : GReg) (imm : Int) (s : State) : Result :=
  .next (s.recordPred pd (truth (decide (s.reg rs = immWord imm))))

/-- `Pd = !cmp.eq(Rs,#s10)` (R108). -/
def execNcmpEqRi (pd : PReg) (rs : GReg) (imm : Int) (s : State) : Result :=
  .next (s.recordPred pd (truth (!decide (s.reg rs = immWord imm))))

/-- `Pd = cmp.eq(Rss,Rtt)` (R109). -/
def execCmpEqPp (pd : PReg) (rss rtt : PairReg) (s : State) : Result :=
  .next (s.recordPred pd (truth (decide (s.pair rss = s.pair rtt))))

/-- `Pd = cmpb.gt(Rs,Rt)` (R112). -/
def execCmpbGtRr (pd : PReg) (rs rt : GReg) (s : State) : Result :=
  .next (s.recordPred pd (truth (gtSigned (lowByte (s.reg rs)) (lowByte (s.reg rt)))))

/-- `Pd = cmpb.gt(Rs,#s8)` (R113). -/
def execCmpbGtRi (pd : PReg) (rs : GReg) (imm : Int) (s : State) : Result :=
  .next (s.recordPred pd (truth (gtSignedImm (lowByte (s.reg rs)) imm)))

/-- `Pd = cmph.gt(Rs,Rt)` (R114). -/
def execCmphGtRr (pd : PReg) (rs rt : GReg) (s : State) : Result :=
  .next (s.recordPred pd (truth (gtSigned (lowHalf (s.reg rs)) (lowHalf (s.reg rt)))))

/-- `Pd = cmph.gt(Rs,#s8)` (R115). -/
def execCmphGtRi (pd : PReg) (rs : GReg) (imm : Int) (s : State) : Result :=
  .next (s.recordPred pd (truth (gtSignedImm (lowHalf (s.reg rs)) imm)))

/-- `Pd = cmp.gt(Rs,Rt)` (R116). -/
def execCmpGtRr (pd : PReg) (rs rt : GReg) (s : State) : Result :=
  .next (s.recordPred pd (truth (gtSigned (s.reg rs) (s.reg rt))))

/-- `Pd = !cmp.gt(Rs,Rt)` (R117). -/
def execNcmpGtRr (pd : PReg) (rs rt : GReg) (s : State) : Result :=
  .next (s.recordPred pd (truth (!gtSigned (s.reg rs) (s.reg rt))))

/-- `Pd = cmp.gt(Rs,#s10)` (R118). -/
def execCmpGtRi (pd : PReg) (rs : GReg) (imm : Int) (s : State) : Result :=
  .next (s.recordPred pd (truth (gtSignedImm (s.reg rs) imm)))

/-- `Pd = !cmp.gt(Rs,#s10)` (R119). -/
def execNcmpGtRi (pd : PReg) (rs : GReg) (imm : Int) (s : State) : Result :=
  .next (s.recordPred pd (truth (!gtSignedImm (s.reg rs) imm)))

/-- `Pd = cmp.gt(Rss,Rtt)` (R120). -/
def execCmpGtPp (pd : PReg) (rss rtt : PairReg) (s : State) : Result :=
  .next (s.recordPred pd (truth (gtSigned (s.pair rss) (s.pair rtt))))

/-- `Pd = cmpb.gtu(Rs,Rt)` (R123). -/
def execCmpbGtuRr (pd : PReg) (rs rt : GReg) (s : State) : Result :=
  .next (s.recordPred pd (truth (gtUnsigned (lowByte (s.reg rs)) (lowByte (s.reg rt)))))

/-- `Pd = cmpb.gtu(Rs,#u7)` (R124). -/
def execCmpbGtuRi (pd : PReg) (rs : GReg) (imm : Int) (s : State) : Result :=
  .next (s.recordPred pd (truth (gtUnsignedImm (lowByte (s.reg rs)) imm)))

/-- `Pd = cmph.gtu(Rs,Rt)` (R125). -/
def execCmphGtuRr (pd : PReg) (rs rt : GReg) (s : State) : Result :=
  .next (s.recordPred pd (truth (gtUnsigned (lowHalf (s.reg rs)) (lowHalf (s.reg rt)))))

/-- `Pd = cmph.gtu(Rs,#u7)` (R126). -/
def execCmphGtuRi (pd : PReg) (rs : GReg) (imm : Int) (s : State) : Result :=
  .next (s.recordPred pd (truth (gtUnsignedImm (lowHalf (s.reg rs)) imm)))

/-- `Pd = cmp.gtu(Rs,Rt)` (R127). -/
def execCmpGtuRr (pd : PReg) (rs rt : GReg) (s : State) : Result :=
  .next (s.recordPred pd (truth (gtUnsigned (s.reg rs) (s.reg rt))))

/-- `Pd = !cmp.gtu(Rs,Rt)` (R128). -/
def execNcmpGtuRr (pd : PReg) (rs rt : GReg) (s : State) : Result :=
  .next (s.recordPred pd (truth (!gtUnsigned (s.reg rs) (s.reg rt))))

/-- `Pd = cmp.gtu(Rs,#u9)` (R129). -/
def execCmpGtuRi (pd : PReg) (rs : GReg) (imm : Int) (s : State) : Result :=
  .next (s.recordPred pd (truth (gtUnsignedImm (s.reg rs) imm)))

/-- `Pd = !cmp.gtu(Rs,#u9)` (R130). -/
def execNcmpGtuRi (pd : PReg) (rs : GReg) (imm : Int) (s : State) : Result :=
  .next (s.recordPred pd (truth (!gtUnsignedImm (s.reg rs) imm)))

/-- `Pd = cmp.gtu(Rss,Rtt)` (R131). -/
def execCmpGtuPp (pd : PReg) (rss rtt : PairReg) (s : State) : Result :=
  .next (s.recordPred pd (truth (gtUnsigned (s.pair rss) (s.pair rtt))))

/-- `Pd = cmp.ge(Rs,#s8)` (R132). -/
def execCmpGeRi (pd : PReg) (rs : GReg) (imm : Int) (s : State) : Result :=
  .next (s.recordPred pd (truth (geSignedImm (s.reg rs) imm)))

/-- `Pd = cmp.geu(Rs,#u8)` (R135). -/
def execCmpGeuRi (pd : PReg) (rs : GReg) (imm : Int) (s : State) : Result :=
  .next (s.recordPred pd (truth (geUnsignedImm (s.reg rs) imm)))

/-- `Pd = cmp.lt(Rs,Rt)` (R136). -/
def execCmpLtRr (pd : PReg) (rs rt : GReg) (s : State) : Result :=
  .next (s.recordPred pd (truth (ltSigned (s.reg rs) (s.reg rt))))

/-- `Pd = cmp.ltu(Rs,Rt)` (R137). -/
def execCmpLtuRr (pd : PReg) (rs rt : GReg) (s : State) : Result :=
  .next (s.recordPred pd (truth (ltUnsigned (s.reg rs) (s.reg rt))))

/-- `Rd = cmp.eq(Rs,Rt)` (R156); the result is 0 or 1. -/
def execCmpEqToR (rd rs rt : GReg) (s : State) : Result :=
  .next (s.recordReg rd (if s.reg rs = s.reg rt then 1#32 else 0#32))

end Sys2Proof.Machine
end

