-- ==== Sys2Proof/Machine/Control.lean ====
section
/-!
DEFINITION. The meanings of the jumps, calls and returns (`spec/41_conditional_instructions.md` rules R210 to R212,
R231).
-/

namespace Sys2Proof.Machine

/-- `jump label` (R210); a hint has no effect (R57). -/
def execJump (lbl : Label) (s : State) : Result := withLabel lbl (fun a t => .next (t.recordTarget a)) s

/-- `if (Pu) jump label` (R210, R200, R201). -/
def execJumpIfT (pu : PReg) (lbl : Label) (s : State) : Result := guarded (.ifT pu) (execJump lbl) s

/-- `if (!Pu) jump label` (R210, R200, R201). -/
def execJumpIfF (pu : PReg) (lbl : Label) (s : State) : Result := guarded (.ifF pu) (execJump lbl) s

/-- `if (Pu.new) jump[:T|:NT] label` (R210, R200, R201). -/
def execJumpIfTnew (pu : PReg) (lbl : Label) (s : State) : Result := guarded (.ifTnew pu) (execJump lbl) s

/-- `if (!Pu.new) jump[:T|:NT] label` (R210, R200, R201). -/
def execJumpIfFnew (pu : PReg) (lbl : Label) (s : State) : Result := guarded (.ifFnew pu) (execJump lbl) s

/-- `call label` (R211). -/
def execCall (lbl : Label) (s : State) : Result :=
  withLabel lbl (fun a t => .next ((t.recordReg 31 t.returnAddress).recordTarget a)) s

/-- `if (Pu) call label` (R211, R200, R201). -/
def execCallIfT (pu : PReg) (lbl : Label) (s : State) : Result := guarded (.ifT pu) (execCall lbl) s

/-- `if (!Pu) call label` (R211, R200, R201). -/
def execCallIfF (pu : PReg) (lbl : Label) (s : State) : Result := guarded (.ifF pu) (execCall lbl) s

/-- `if (Pu.new) call label` (R211, R200, R201). -/
def execCallIfTnew (pu : PReg) (lbl : Label) (s : State) : Result := guarded (.ifTnew pu) (execCall lbl) s

/-- `if (!Pu.new) call label` (R211, R200, R201). -/
def execCallIfFnew (pu : PReg) (lbl : Label) (s : State) : Result := guarded (.ifFnew pu) (execCall lbl) s

/-- `jumpr Rs` (R212). -/
def execJumpr (rs : GReg) (s : State) : Result := .next (s.recordTarget (s.reg rs))

/-- `if (Pu) jumpr Rs` (R212, R200, R201). -/
def execJumprIfT (pu : PReg) (rs : GReg) (s : State) : Result := guarded (.ifT pu) (execJumpr rs) s

/-- `if (!Pu) jumpr Rs` (R212, R200, R201). -/
def execJumprIfF (pu : PReg) (rs : GReg) (s : State) : Result := guarded (.ifF pu) (execJumpr rs) s

/-- `if (Pu.new) jumpr Rs` (R212, R200, R201). -/
def execJumprIfTnew (pu : PReg) (rs : GReg) (s : State) : Result := guarded (.ifTnew pu) (execJumpr rs) s

/-- `if (!Pu.new) jumpr Rs` (R212, R200, R201). -/
def execJumprIfFnew (pu : PReg) (rs : GReg) (s : State) : Result := guarded (.ifFnew pu) (execJumpr rs) s

/-- `callr Rs` (R212). -/
def execCallr (rs : GReg) (s : State) : Result := .next ((s.recordReg 31 s.returnAddress).recordTarget (s.reg rs))

/-- `if (Pu) callr Rs` (R212, R200, R201). -/
def execCallrIfT (pu : PReg) (rs : GReg) (s : State) : Result := guarded (.ifT pu) (execCallr rs) s

/-- `if (!Pu) callr Rs` (R212, R200, R201). -/
def execCallrIfF (pu : PReg) (rs : GReg) (s : State) : Result := guarded (.ifF pu) (execCallr rs) s

/-- `if (Pu.new) callr Rs` (R212, R200, R201). -/
def execCallrIfTnew (pu : PReg) (rs : GReg) (s : State) : Result := guarded (.ifTnew pu) (execCallr rs) s

/-- `if (!Pu.new) callr Rs` (R212, R200, R201). -/
def execCallrIfFnew (pu : PReg) (rs : GReg) (s : State) : Result := guarded (.ifFnew pu) (execCallr rs) s

/-- `dealloc_return` (R231); entry 30: no frame-key scrambling. -/
def execDeallocReturn (s : State) : Result :=
  loading (s.reg 30) 8
    (fun t =>
      let frame := s.load (s.reg 30) 8 64
      (((t.recordReg 30 (wordLane frame 0)).recordReg 31 (wordLane frame 1)).recordReg 29
        (s.reg 30 + 8#32)).recordTarget (wordLane frame 1))
    s

/-- `if (Pu) dealloc_return` (R231, R200, R201). -/
def execDeallocReturnIfT (pu : PReg) (s : State) : Result := guarded (.ifT pu) execDeallocReturn s

/-- `if (!Pu) dealloc_return` (R231, R200, R201). -/
def execDeallocReturnIfF (pu : PReg) (s : State) : Result := guarded (.ifF pu) execDeallocReturn s

/-- `if (Pu.new) dealloc_return` (R231, R200, R201). -/
def execDeallocReturnIfTnew (pu : PReg) (s : State) : Result := guarded (.ifTnew pu) execDeallocReturn s

/-- `if (!Pu.new) dealloc_return` (R231, R200, R201). -/
def execDeallocReturnIfFnew (pu : PReg) (s : State) : Result := guarded (.ifFnew pu) execDeallocReturn s

end Sys2Proof.Machine
end

