-- ==== Sys2Proof/Machine/FloatCompare.lean ====
section
/-!
DEFINITION. The meanings of the floating-point compares and classifies (`spec/40_scalar_compare.md` rules R110,
R111, R121, R122, R133, R134, R138 to R141, R157; entry 23).
-/

namespace Sys2Proof.Machine

/-- `Pd = sfcmp.eq(Rs,Rt)` (R110). -/
def execSfcmpEq (pd : PReg) (rs rt : GReg) (s : State) : Result :=
  .next (s.recordPred pd (truth (single.eq (s.reg rs) (s.reg rt))))

/-- `Pd = dfcmp.eq(Rss,Rtt)` (R111). -/
def execDfcmpEq (pd : PReg) (rss rtt : PairReg) (s : State) : Result :=
  .next (s.recordPred pd (truth (double.eq (s.pair rss) (s.pair rtt))))

/-- `Pd = sfcmp.gt(Rs,Rt)` (R121). -/
def execSfcmpGt (pd : PReg) (rs rt : GReg) (s : State) : Result :=
  .next (s.recordPred pd (truth (single.gt (s.reg rs) (s.reg rt))))

/-- `Pd = dfcmp.gt(Rss,Rtt)` (R122). -/
def execDfcmpGt (pd : PReg) (rss rtt : PairReg) (s : State) : Result :=
  .next (s.recordPred pd (truth (double.gt (s.pair rss) (s.pair rtt))))

/-- `Pd = sfcmp.ge(Rs,Rt)` (R133). -/
def execSfcmpGe (pd : PReg) (rs rt : GReg) (s : State) : Result :=
  .next (s.recordPred pd (truth (single.ge (s.reg rs) (s.reg rt))))

/-- `Pd = dfcmp.ge(Rss,Rtt)` (R134). -/
def execDfcmpGe (pd : PReg) (rss rtt : PairReg) (s : State) : Result :=
  .next (s.recordPred pd (truth (double.ge (s.pair rss) (s.pair rtt))))

/-- `Pd = sfcmp.uo(Rs,Rt)` (R138). -/
def execSfcmpUo (pd : PReg) (rs rt : GReg) (s : State) : Result :=
  .next (s.recordPred pd (truth (single.uo (s.reg rs) (s.reg rt))))

/-- `Pd = dfcmp.uo(Rss,Rtt)` (R139). -/
def execDfcmpUo (pd : PReg) (rss rtt : PairReg) (s : State) : Result :=
  .next (s.recordPred pd (truth (double.uo (s.pair rss) (s.pair rtt))))

/-- `Pd = sfclass(Rs,#u5)` (R140); `ClassBit`: entry 19. -/
def execSfclass (pd : PReg) (rs : GReg) (imm : Int) (s : State) : Result :=
  .next (s.recordPred pd (truth (s.inClasses single (s.reg rs) imm)))

/-- `Pd = dfclass(Rss,#u5)` (R141); `ClassBit`: entry 19. -/
def execDfclass (pd : PReg) (rss : PairReg) (imm : Int) (s : State) : Result :=
  .next (s.recordPred pd (truth (s.inClasses double (s.pair rss) imm)))

end Sys2Proof.Machine
end

