-- ==== Sys2Proof/Machine/LoadStore.lean ====
section
/-!
DEFINITION. The meanings of the loads and stores (`spec/41_conditional_instructions.md` rules R213 to R218).
Effective address: the content of `Rs`. A guarded form with a false guard is canceled with its exceptions (R202).
-/

namespace Sys2Proof.Machine

/-- `Rd = memw(Rs)` (R213). -/
def execMemwLd (rd rs : GReg) (s : State) : Result :=
  loading (s.reg rs) 4 (fun t => t.recordReg rd (s.load (s.reg rs) 4 32)) s

/-- `if (Pu) Rd = memw(Rs)` (R213, R200, R201). -/
def execMemwLdIfT (pu : PReg) (rd rs : GReg) (s : State) : Result := guarded (.ifT pu) (execMemwLd rd rs) s

/-- `if (!Pu) Rd = memw(Rs)` (R213, R200, R201). -/
def execMemwLdIfF (pu : PReg) (rd rs : GReg) (s : State) : Result := guarded (.ifF pu) (execMemwLd rd rs) s

/-- `if (Pu.new) Rd = memw(Rs)` (R213, R200, R201). -/
def execMemwLdIfTnew (pu : PReg) (rd rs : GReg) (s : State) : Result := guarded (.ifTnew pu) (execMemwLd rd rs) s

/-- `if (!Pu.new) Rd = memw(Rs)` (R213, R200, R201). -/
def execMemwLdIfFnew (pu : PReg) (rd rs : GReg) (s : State) : Result := guarded (.ifFnew pu) (execMemwLd rd rs) s

/-- `Rdd = memd(Rs)` (R214). -/
def execMemdLd (rdd : PairReg) (rs : GReg) (s : State) : Result :=
  loading (s.reg rs) 8 (fun t => t.recordPair rdd (s.load (s.reg rs) 8 64)) s

/-- `if (Pu) Rdd = memd(Rs)` (R214, R200, R201). -/
def execMemdLdIfT (pu : PReg) (rdd : PairReg) (rs : GReg) (s : State) : Result :=
  guarded (.ifT pu) (execMemdLd rdd rs) s

/-- `if (!Pu) Rdd = memd(Rs)` (R214, R200, R201). -/
def execMemdLdIfF (pu : PReg) (rdd : PairReg) (rs : GReg) (s : State) : Result :=
  guarded (.ifF pu) (execMemdLd rdd rs) s

/-- `if (Pu.new) Rdd = memd(Rs)` (R214, R200, R201). -/
def execMemdLdIfTnew (pu : PReg) (rdd : PairReg) (rs : GReg) (s : State) : Result :=
  guarded (.ifTnew pu) (execMemdLd rdd rs) s

/-- `if (!Pu.new) Rdd = memd(Rs)` (R214, R200, R201). -/
def execMemdLdIfFnew (pu : PReg) (rdd : PairReg) (rs : GReg) (s : State) : Result :=
  guarded (.ifFnew pu) (execMemdLd rdd rs) s

/-- `Rd = memb(Rs)` (R215). -/
def execMembLd (rd rs : GReg) (s : State) : Result :=
  loading (s.reg rs) 1 (fun t => t.recordReg rd ((s.load (s.reg rs) 1 8).signExtend 32)) s

/-- `if (Pu) Rd = memb(Rs)` (R215, R200, R201). -/
def execMembLdIfT (pu : PReg) (rd rs : GReg) (s : State) : Result := guarded (.ifT pu) (execMembLd rd rs) s

/-- `if (!Pu) Rd = memb(Rs)` (R215, R200, R201). -/
def execMembLdIfF (pu : PReg) (rd rs : GReg) (s : State) : Result := guarded (.ifF pu) (execMembLd rd rs) s

/-- `if (Pu.new) Rd = memb(Rs)` (R215, R200, R201). -/
def execMembLdIfTnew (pu : PReg) (rd rs : GReg) (s : State) : Result := guarded (.ifTnew pu) (execMembLd rd rs) s

/-- `if (!Pu.new) Rd = memb(Rs)` (R215, R200, R201). -/
def execMembLdIfFnew (pu : PReg) (rd rs : GReg) (s : State) : Result := guarded (.ifFnew pu) (execMembLd rd rs) s

/-- `Rd = memub(Rs)` (R215). -/
def execMemubLd (rd rs : GReg) (s : State) : Result :=
  loading (s.reg rs) 1 (fun t => t.recordReg rd ((s.load (s.reg rs) 1 8).setWidth 32)) s

/-- `if (Pu) Rd = memub(Rs)` (R215, R200, R201). -/
def execMemubLdIfT (pu : PReg) (rd rs : GReg) (s : State) : Result := guarded (.ifT pu) (execMemubLd rd rs) s

/-- `if (!Pu) Rd = memub(Rs)` (R215, R200, R201). -/
def execMemubLdIfF (pu : PReg) (rd rs : GReg) (s : State) : Result := guarded (.ifF pu) (execMemubLd rd rs) s

/-- `if (Pu.new) Rd = memub(Rs)` (R215, R200, R201). -/
def execMemubLdIfTnew (pu : PReg) (rd rs : GReg) (s : State) : Result := guarded (.ifTnew pu) (execMemubLd rd rs) s

/-- `if (!Pu.new) Rd = memub(Rs)` (R215, R200, R201). -/
def execMemubLdIfFnew (pu : PReg) (rd rs : GReg) (s : State) : Result := guarded (.ifFnew pu) (execMemubLd rd rs) s

/-- `Rd = memh(Rs)` (R215). -/
def execMemhLd (rd rs : GReg) (s : State) : Result :=
  loading (s.reg rs) 2 (fun t => t.recordReg rd ((s.load (s.reg rs) 2 16).signExtend 32)) s

/-- `if (Pu) Rd = memh(Rs)` (R215, R200, R201). -/
def execMemhLdIfT (pu : PReg) (rd rs : GReg) (s : State) : Result := guarded (.ifT pu) (execMemhLd rd rs) s

/-- `if (!Pu) Rd = memh(Rs)` (R215, R200, R201). -/
def execMemhLdIfF (pu : PReg) (rd rs : GReg) (s : State) : Result := guarded (.ifF pu) (execMemhLd rd rs) s

/-- `if (Pu.new) Rd = memh(Rs)` (R215, R200, R201). -/
def execMemhLdIfTnew (pu : PReg) (rd rs : GReg) (s : State) : Result := guarded (.ifTnew pu) (execMemhLd rd rs) s

/-- `if (!Pu.new) Rd = memh(Rs)` (R215, R200, R201). -/
def execMemhLdIfFnew (pu : PReg) (rd rs : GReg) (s : State) : Result := guarded (.ifFnew pu) (execMemhLd rd rs) s

/-- `Rd = memuh(Rs)` (R215). -/
def execMemuhLd (rd rs : GReg) (s : State) : Result :=
  loading (s.reg rs) 2 (fun t => t.recordReg rd ((s.load (s.reg rs) 2 16).setWidth 32)) s

/-- `if (Pu) Rd = memuh(Rs)` (R215, R200, R201). -/
def execMemuhLdIfT (pu : PReg) (rd rs : GReg) (s : State) : Result := guarded (.ifT pu) (execMemuhLd rd rs) s

/-- `if (!Pu) Rd = memuh(Rs)` (R215, R200, R201). -/
def execMemuhLdIfF (pu : PReg) (rd rs : GReg) (s : State) : Result := guarded (.ifF pu) (execMemuhLd rd rs) s

/-- `if (Pu.new) Rd = memuh(Rs)` (R215, R200, R201). -/
def execMemuhLdIfTnew (pu : PReg) (rd rs : GReg) (s : State) : Result := guarded (.ifTnew pu) (execMemuhLd rd rs) s

/-- `if (!Pu.new) Rd = memuh(Rs)` (R215, R200, R201). -/
def execMemuhLdIfFnew (pu : PReg) (rd rs : GReg) (s : State) : Result := guarded (.ifFnew pu) (execMemuhLd rd rs) s

/-- `memw(Rs) = Rt` (R216). -/
def execMemwSt (rs rt : GReg) (s : State) : Result := storing (s.reg rs) 4 (s.reg rt) s

/-- `if (Pu) memw(Rs) = Rt` (R216, R200, R201). -/
def execMemwStIfT (pu : PReg) (rs rt : GReg) (s : State) : Result := guarded (.ifT pu) (execMemwSt rs rt) s

/-- `if (!Pu) memw(Rs) = Rt` (R216, R200, R201). -/
def execMemwStIfF (pu : PReg) (rs rt : GReg) (s : State) : Result := guarded (.ifF pu) (execMemwSt rs rt) s

/-- `if (Pu.new) memw(Rs) = Rt` (R216, R200, R201). -/
def execMemwStIfTnew (pu : PReg) (rs rt : GReg) (s : State) : Result := guarded (.ifTnew pu) (execMemwSt rs rt) s

/-- `if (!Pu.new) memw(Rs) = Rt` (R216, R200, R201). -/
def execMemwStIfFnew (pu : PReg) (rs rt : GReg) (s : State) : Result := guarded (.ifFnew pu) (execMemwSt rs rt) s

/-- `memd(Rs) = Rtt` (R217). -/
def execMemdSt (rs : GReg) (rtt : PairReg) (s : State) : Result := storing (s.reg rs) 8 (s.pair rtt) s

/-- `if (Pu) memd(Rs) = Rtt` (R217, R200, R201). -/
def execMemdStIfT (pu : PReg) (rs : GReg) (rtt : PairReg) (s : State) : Result :=
  guarded (.ifT pu) (execMemdSt rs rtt) s

/-- `if (!Pu) memd(Rs) = Rtt` (R217, R200, R201). -/
def execMemdStIfF (pu : PReg) (rs : GReg) (rtt : PairReg) (s : State) : Result :=
  guarded (.ifF pu) (execMemdSt rs rtt) s

/-- `if (Pu.new) memd(Rs) = Rtt` (R217, R200, R201). -/
def execMemdStIfTnew (pu : PReg) (rs : GReg) (rtt : PairReg) (s : State) : Result :=
  guarded (.ifTnew pu) (execMemdSt rs rtt) s

/-- `if (!Pu.new) memd(Rs) = Rtt` (R217, R200, R201). -/
def execMemdStIfFnew (pu : PReg) (rs : GReg) (rtt : PairReg) (s : State) : Result :=
  guarded (.ifFnew pu) (execMemdSt rs rtt) s

/-- `memb(Rs) = Rt` (R218). -/
def execMembSt (rs rt : GReg) (s : State) : Result := storing (s.reg rs) 1 (s.reg rt) s

/-- `if (Pu) memb(Rs) = Rt` (R218, R200, R201). -/
def execMembStIfT (pu : PReg) (rs rt : GReg) (s : State) : Result := guarded (.ifT pu) (execMembSt rs rt) s

/-- `if (!Pu) memb(Rs) = Rt` (R218, R200, R201). -/
def execMembStIfF (pu : PReg) (rs rt : GReg) (s : State) : Result := guarded (.ifF pu) (execMembSt rs rt) s

/-- `if (Pu.new) memb(Rs) = Rt` (R218, R200, R201). -/
def execMembStIfTnew (pu : PReg) (rs rt : GReg) (s : State) : Result := guarded (.ifTnew pu) (execMembSt rs rt) s

/-- `if (!Pu.new) memb(Rs) = Rt` (R218, R200, R201). -/
def execMembStIfFnew (pu : PReg) (rs rt : GReg) (s : State) : Result := guarded (.ifFnew pu) (execMembSt rs rt) s

/-- `memh(Rs) = Rt` (R218). -/
def execMemhSt (rs rt : GReg) (s : State) : Result := storing (s.reg rs) 2 (s.reg rt) s

/-- `if (Pu) memh(Rs) = Rt` (R218, R200, R201). -/
def execMemhStIfT (pu : PReg) (rs rt : GReg) (s : State) : Result := guarded (.ifT pu) (execMemhSt rs rt) s

/-- `if (!Pu) memh(Rs) = Rt` (R218, R200, R201). -/
def execMemhStIfF (pu : PReg) (rs rt : GReg) (s : State) : Result := guarded (.ifF pu) (execMemhSt rs rt) s

/-- `if (Pu.new) memh(Rs) = Rt` (R218, R200, R201). -/
def execMemhStIfTnew (pu : PReg) (rs rt : GReg) (s : State) : Result := guarded (.ifTnew pu) (execMemhSt rs rt) s

/-- `if (!Pu.new) memh(Rs) = Rt` (R218, R200, R201). -/
def execMemhStIfFnew (pu : PReg) (rs rt : GReg) (s : State) : Result := guarded (.ifFnew pu) (execMemhSt rs rt) s

end Sys2Proof.Machine
end

