-- ==== Sys2Proof/Machine/PredicateOps.lean ====
section
/-!
DEFINITION. The meanings of the predicate register instructions and the quadruple transfers
(`spec/44_predicate_operations.md` rules R500 to R518, R520 to R522).
-/

namespace Sys2Proof.Machine

/-- `Pd = Ps` (R500). -/
def execTfrPp (pd ps : PReg) (s : State) : Result := .next (s.recordPred pd (s.pred ps))

/-- `Pd = Rs` (R501); the low eight bits. -/
def execTfrPr (pd : PReg) (rs : GReg) (s : State) : Result := .next (s.recordPred pd (lowByte (s.reg rs)))

/-- `Rd = Ps` (R502); zero-extended. -/
def execTfrRp (rd : GReg) (ps : PReg) (s : State) : Result := .next (s.recordReg rd ((s.pred ps).setWidth 32))

/-- `Pd = and(Ps,Pt)` (R503). -/
def execAndPp (pd ps pt : PReg) (s : State) : Result := .next (s.recordPred pd (s.pred ps &&& s.pred pt))

/-- `Pd = and(Ps,!Pt)` (R504). -/
def execAndPpn (pd ps pt : PReg) (s : State) : Result := .next (s.recordPred pd (s.pred ps &&& ~~~(s.pred pt)))

/-- `Pd = or(Ps,Pt)` (R505). -/
def execOrPp (pd ps pt : PReg) (s : State) : Result := .next (s.recordPred pd (s.pred ps ||| s.pred pt))

/-- `Pd = or(Ps,!Pt)` (R506). -/
def execOrPpn (pd ps pt : PReg) (s : State) : Result := .next (s.recordPred pd (s.pred ps ||| ~~~(s.pred pt)))

/-- `Pd = and(Ps,and(Pt,Pu))` (R507). -/
def execAndAndPpp (pd ps pt pu : PReg) (s : State) : Result :=
  .next (s.recordPred pd (s.pred ps &&& (s.pred pt &&& s.pred pu)))

/-- `Pd = and(Ps,and(Pt,!Pu))` (R508). -/
def execAndAndPppn (pd ps pt pu : PReg) (s : State) : Result :=
  .next (s.recordPred pd (s.pred ps &&& (s.pred pt &&& ~~~(s.pred pu))))

/-- `Pd = and(Ps,or(Pt,Pu))` (R509). -/
def execAndOrPpp (pd ps pt pu : PReg) (s : State) : Result :=
  .next (s.recordPred pd (s.pred ps &&& (s.pred pt ||| s.pred pu)))

/-- `Pd = and(Ps,or(Pt,!Pu))` (R510). -/
def execAndOrPppn (pd ps pt pu : PReg) (s : State) : Result :=
  .next (s.recordPred pd (s.pred ps &&& (s.pred pt ||| ~~~(s.pred pu))))

/-- `Pd = or(Ps,and(Pt,Pu))` (R511). -/
def execOrAndPpp (pd ps pt pu : PReg) (s : State) : Result :=
  .next (s.recordPred pd (s.pred ps ||| (s.pred pt &&& s.pred pu)))

/-- `Pd = or(Ps,and(Pt,!Pu))` (R512). -/
def execOrAndPppn (pd ps pt pu : PReg) (s : State) : Result :=
  .next (s.recordPred pd (s.pred ps ||| (s.pred pt &&& ~~~(s.pred pu))))

/-- `Pd = or(Ps,or(Pt,Pu))` (R513). -/
def execOrOrPpp (pd ps pt pu : PReg) (s : State) : Result :=
  .next (s.recordPred pd (s.pred ps ||| (s.pred pt ||| s.pred pu)))

/-- `Pd = or(Ps,or(Pt,!Pu))` (R514). -/
def execOrOrPppn (pd ps pt pu : PReg) (s : State) : Result :=
  .next (s.recordPred pd (s.pred ps ||| (s.pred pt ||| ~~~(s.pred pu))))

/-- `Pd = not(Ps)` (R515). -/
def execNotP (pd ps : PReg) (s : State) : Result := .next (s.recordPred pd (~~~(s.pred ps)))

/-- `Pd = xor(Ps,Pt)` (R516). -/
def execXorPp (pd ps pt : PReg) (s : State) : Result := .next (s.recordPred pd (s.pred ps ^^^ s.pred pt))

/-- `Pd = any8(Ps)` (R517). -/
def execAny8 (pd ps : PReg) (s : State) : Result := .next (s.recordPred pd (truth (decide (s.pred ps ≠ 0x00#8))))

/-- `Pd = all8(Ps)` (R518). -/
def execAll8 (pd ps : PReg) (s : State) : Result := .next (s.recordPred pd (truth (decide (s.pred ps = 0xFF#8))))

/-- `P3:0 = Rs` (R520). -/
def execTfrP4r (rs : GReg) (s : State) : Result := .next (s.recordQuad (s.reg rs))

/-- `Rd = P3:0` (R521). -/
def execTfrRp4 (rd : GReg) (s : State) : Result := .next (s.recordReg rd s.quad)

/-- `C5:4 = Rss` (R522); the high word, which would go to `C5`, is discarded (entry 25). -/
def execTfrC54 (rss : PairReg) (s : State) : Result := .next (s.recordQuad (wordLane (s.pair rss) 0))

end Sys2Proof.Machine
end

