-- ==== Sys2Proof/Machine/RangeMatch.lean ====
section
/-!
DEFINITION. The meanings of the bounds check and the TLB match (`spec/40_scalar_compare.md` rules R154, R155).
-/

namespace Sys2Proof.Machine

/-- `Pd = boundscheck(Rs,Rtt)` (R154); the range test is `BoundsCheck` (entry 20). -/
def execBoundscheck (pd : PReg) (rs : GReg) (rtt : PairReg) (s : State) : Result :=
  .next (s.recordPred pd (truth (s.inBounds (s.reg rs) (s.pair rtt))))

/-- `Pd = tlbmatch(Rss,Rt)` (R155); `TlbMatch` is uninterpreted (entry 22). -/
def execTlbmatch (pd : PReg) (rss : PairReg) (rt : GReg) (s : State) : Result :=
  .next (s.recordPred pd (truth (Config.tlbMatch (s.pair rss) (s.reg rt))))

end Sys2Proof.Machine
end

