-- ==== Sys2Proof/Machine/StoreConditional.lean ====
section
/-!
DEFINITION. The meanings of the store conditionals (`spec/40_scalar_compare.md` rules R152, R153;
`spec/20_memory.md` rule R40).
-/

namespace Sys2Proof.Machine

/-- `memw_locked(Rs,Pd) = Rt` (R152). -/
def execMemwLockedSt (rs : GReg) (pd : PReg) (rt : GReg) (s : State) : Result :=
  storeConditional (s.reg rs) .word (s.reg rt) pd s

/-- `memd_locked(Rs,Pd) = Rtt` (R153); the doubleword is stored (C3). -/
def execMemdLockedSt (rs : GReg) (pd : PReg) (rtt : PairReg) (s : State) : Result :=
  storeConditional (s.reg rs) .dword (s.pair rtt) pd s

end Sys2Proof.Machine
end

