-- ==== Sys2Proof/Machine/Vector.lean ====
section
/-!
DEFINITION. The meanings of the vector compares and the vector mux (`spec/43_vector_predicates.md` rules R401 to
R405).
-/

namespace Sys2Proof.Machine

/-- `Pd = vcmpb.eq(Rss,Rtt)` (R401). -/
def execVcmpbEq (pd : PReg) (rss rtt : PairReg) (s : State) : Result :=
  .next (s.recordPred pd (predOfBits fun i => decide (byteLane (s.pair rss) i = byteLane (s.pair rtt) i)))

/-- `Pd = vcmph.eq(Rss,Rtt)` (R402); each truth value in two bits. -/
def execVcmphEq (pd : PReg) (rss rtt : PairReg) (s : State) : Result :=
  .next
    (s.recordPred pd
      (predOfBits fun i => decide (halfLane (s.pair rss) (i / 2) = halfLane (s.pair rtt) (i / 2))))

/-- `Pd = vcmpw.eq(Rss,Rtt)` (R403); each truth value in four bits. -/
def execVcmpwEq (pd : PReg) (rss rtt : PairReg) (s : State) : Result :=
  .next
    (s.recordPred pd
      (predOfBits fun i => decide (wordLane (s.pair rss) (i / 4) = wordLane (s.pair rtt) (i / 4))))

/-- `Pd = vcmpb.gt(Rss,Rtt)` (R404). -/
def execVcmpbGt (pd : PReg) (rss rtt : PairReg) (s : State) : Result :=
  .next (s.recordPred pd (predOfBits fun i => gtSigned (byteLane (s.pair rss) i) (byteLane (s.pair rtt) i)))

/-- `Pd = vcmpb.gtu(Rss,Rtt)` (R404). -/
def execVcmpbGtu (pd : PReg) (rss rtt : PairReg) (s : State) : Result :=
  .next (s.recordPred pd (predOfBits fun i => gtUnsigned (byteLane (s.pair rss) i) (byteLane (s.pair rtt) i)))

/-- `Pd = vcmph.gt(Rss,Rtt)` (R404); each truth value in two bits. -/
def execVcmphGt (pd : PReg) (rss rtt : PairReg) (s : State) : Result :=
  .next
    (s.recordPred pd
      (predOfBits fun i => gtSigned (halfLane (s.pair rss) (i / 2)) (halfLane (s.pair rtt) (i / 2))))

/-- `Pd = vcmph.gtu(Rss,Rtt)` (R404); each truth value in two bits. -/
def execVcmphGtu (pd : PReg) (rss rtt : PairReg) (s : State) : Result :=
  .next
    (s.recordPred pd
      (predOfBits fun i => gtUnsigned (halfLane (s.pair rss) (i / 2)) (halfLane (s.pair rtt) (i / 2))))

/-- `Pd = vcmpw.gt(Rss,Rtt)` (R404); each truth value in four bits. -/
def execVcmpwGt (pd : PReg) (rss rtt : PairReg) (s : State) : Result :=
  .next
    (s.recordPred pd
      (predOfBits fun i => gtSigned (wordLane (s.pair rss) (i / 4)) (wordLane (s.pair rtt) (i / 4))))

/-- `Pd = vcmpw.gtu(Rss,Rtt)` (R404); each truth value in four bits. -/
def execVcmpwGtu (pd : PReg) (rss rtt : PairReg) (s : State) : Result :=
  .next
    (s.recordPred pd
      (predOfBits fun i => gtUnsigned (wordLane (s.pair rss) (i / 4)) (wordLane (s.pair rtt) (i / 4))))

/-- `Rdd = vmux(Ps,Rss,Rtt)` (R405). -/
def execVmux (rdd : PairReg) (ps : PReg) (rss rtt : PairReg) (s : State) : Result :=
  .next
    (s.recordPair rdd
      (ofByteLanes fun i => if (s.pred ps).getLsbD i then byteLane (s.pair rss) i else byteLane (s.pair rtt) i))

end Sys2Proof.Machine
end

