-- ==== Sys2Proof/Machine/Dispatch.lean ====
section
/-!
DEFINITION. One arm per constructor of `Instr`, each one call of the instruction's meaning. `exec i s` is what the
instruction computes in the packet that `s` is executing (`spec/42_packet_predicate_rules.md` rule R300, phases 2 and
3): it reads the state at packet start and records its effects in `s.pkt.effects`; the packet step commits them.
-/

namespace Sys2Proof.Machine

/-- What an instruction does (R300). -/
def exec (i : Instr) (s : State) : Host.Outcome State Fault Refusal :=
  match i with
  | .cmpbEqRr pd rs rt => Sys2Proof.Machine.execCmpbEqRr pd rs rt s
  | .cmpbEqRi pd rs imm => Sys2Proof.Machine.execCmpbEqRi pd rs imm s
  | .cmphEqRr pd rs rt => Sys2Proof.Machine.execCmphEqRr pd rs rt s
  | .cmphEqRi pd rs imm => Sys2Proof.Machine.execCmphEqRi pd rs imm s
  | .cmpEqRr pd rs rt => Sys2Proof.Machine.execCmpEqRr pd rs rt s
  | .ncmpEqRr pd rs rt => Sys2Proof.Machine.execNcmpEqRr pd rs rt s
  | .cmpEqRi pd rs imm => Sys2Proof.Machine.execCmpEqRi pd rs imm s
  | .ncmpEqRi pd rs imm => Sys2Proof.Machine.execNcmpEqRi pd rs imm s
  | .cmpEqPp pd rss rtt => Sys2Proof.Machine.execCmpEqPp pd rss rtt s
  | .sfcmpEq pd rs rt => Sys2Proof.Machine.execSfcmpEq pd rs rt s
  | .dfcmpEq pd rss rtt => Sys2Proof.Machine.execDfcmpEq pd rss rtt s
  | .cmpbGtRr pd rs rt => Sys2Proof.Machine.execCmpbGtRr pd rs rt s
  | .cmpbGtRi pd rs imm => Sys2Proof.Machine.execCmpbGtRi pd rs imm s
  | .cmphGtRr pd rs rt => Sys2Proof.Machine.execCmphGtRr pd rs rt s
  | .cmphGtRi pd rs imm => Sys2Proof.Machine.execCmphGtRi pd rs imm s
  | .cmpGtRr pd rs rt => Sys2Proof.Machine.execCmpGtRr pd rs rt s
  | .ncmpGtRr pd rs rt => Sys2Proof.Machine.execNcmpGtRr pd rs rt s
  | .cmpGtRi pd rs imm => Sys2Proof.Machine.execCmpGtRi pd rs imm s
  | .ncmpGtRi pd rs imm => Sys2Proof.Machine.execNcmpGtRi pd rs imm s
  | .cmpGtPp pd rss rtt => Sys2Proof.Machine.execCmpGtPp pd rss rtt s
  | .sfcmpGt pd rs rt => Sys2Proof.Machine.execSfcmpGt pd rs rt s
  | .dfcmpGt pd rss rtt => Sys2Proof.Machine.execDfcmpGt pd rss rtt s
  | .cmpbGtuRr pd rs rt => Sys2Proof.Machine.execCmpbGtuRr pd rs rt s
  | .cmpbGtuRi pd rs imm => Sys2Proof.Machine.execCmpbGtuRi pd rs imm s
  | .cmphGtuRr pd rs rt => Sys2Proof.Machine.execCmphGtuRr pd rs rt s
  | .cmphGtuRi pd rs imm => Sys2Proof.Machine.execCmphGtuRi pd rs imm s
  | .cmpGtuRr pd rs rt => Sys2Proof.Machine.execCmpGtuRr pd rs rt s
  | .ncmpGtuRr pd rs rt => Sys2Proof.Machine.execNcmpGtuRr pd rs rt s
  | .cmpGtuRi pd rs imm => Sys2Proof.Machine.execCmpGtuRi pd rs imm s
  | .ncmpGtuRi pd rs imm => Sys2Proof.Machine.execNcmpGtuRi pd rs imm s
  | .cmpGtuPp pd rss rtt => Sys2Proof.Machine.execCmpGtuPp pd rss rtt s
  | .cmpGeRi pd rs imm => Sys2Proof.Machine.execCmpGeRi pd rs imm s
  | .sfcmpGe pd rs rt => Sys2Proof.Machine.execSfcmpGe pd rs rt s
  | .dfcmpGe pd rss rtt => Sys2Proof.Machine.execDfcmpGe pd rss rtt s
  | .cmpGeuRi pd rs imm => Sys2Proof.Machine.execCmpGeuRi pd rs imm s
  | .cmpLtRr pd rs rt => Sys2Proof.Machine.execCmpLtRr pd rs rt s
  | .cmpLtuRr pd rs rt => Sys2Proof.Machine.execCmpLtuRr pd rs rt s
  | .sfcmpUo pd rs rt => Sys2Proof.Machine.execSfcmpUo pd rs rt s
  | .dfcmpUo pd rss rtt => Sys2Proof.Machine.execDfcmpUo pd rss rtt s
  | .sfclass pd rs imm => Sys2Proof.Machine.execSfclass pd rs imm s
  | .dfclass pd rss imm => Sys2Proof.Machine.execDfclass pd rss imm s
  | .tstbitRr pd rs rt => Sys2Proof.Machine.execTstbitRr pd rs rt s
  | .ntstbitRr pd rs rt => Sys2Proof.Machine.execNtstbitRr pd rs rt s
  | .tstbitRi pd rs imm => Sys2Proof.Machine.execTstbitRi pd rs imm s
  | .ntstbitRi pd rs imm => Sys2Proof.Machine.execNtstbitRi pd rs imm s
  | .bitsclrRr pd rs rt => Sys2Proof.Machine.execBitsclrRr pd rs rt s
  | .nbitsclrRr pd rs rt => Sys2Proof.Machine.execNbitsclrRr pd rs rt s
  | .bitsclrRi pd rs imm => Sys2Proof.Machine.execBitsclrRi pd rs imm s
  | .nbitsclrRi pd rs imm => Sys2Proof.Machine.execNbitsclrRi pd rs imm s
  | .bitssetRr pd rs rt => Sys2Proof.Machine.execBitssetRr pd rs rt s
  | .nbitssetRr pd rs rt => Sys2Proof.Machine.execNbitssetRr pd rs rt s
  | .memwLockedSt rs pd rt => Sys2Proof.Machine.execMemwLockedSt rs pd rt s
  | .memdLockedSt rs pd rtt => Sys2Proof.Machine.execMemdLockedSt rs pd rtt s
  | .boundscheck pd rs rtt => Sys2Proof.Machine.execBoundscheck pd rs rtt s
  | .tlbmatch pd rss rt => Sys2Proof.Machine.execTlbmatch pd rss rt s
  | .cmpEqToR rd rs rt => Sys2Proof.Machine.execCmpEqToR rd rs rt s
  | .tfrPp pd ps => Sys2Proof.Machine.execTfrPp pd ps s
  | .tfrPr pd rs => Sys2Proof.Machine.execTfrPr pd rs s
  | .tfrRp rd ps => Sys2Proof.Machine.execTfrRp rd ps s
  | .andPp pd ps pt => Sys2Proof.Machine.execAndPp pd ps pt s
  | .andPpn pd ps pt => Sys2Proof.Machine.execAndPpn pd ps pt s
  | .orPp pd ps pt => Sys2Proof.Machine.execOrPp pd ps pt s
  | .orPpn pd ps pt => Sys2Proof.Machine.execOrPpn pd ps pt s
  | .andAndPpp pd ps pt pu => Sys2Proof.Machine.execAndAndPpp pd ps pt pu s
  | .andAndPppn pd ps pt pu => Sys2Proof.Machine.execAndAndPppn pd ps pt pu s
  | .andOrPpp pd ps pt pu => Sys2Proof.Machine.execAndOrPpp pd ps pt pu s
  | .andOrPppn pd ps pt pu => Sys2Proof.Machine.execAndOrPppn pd ps pt pu s
  | .orAndPpp pd ps pt pu => Sys2Proof.Machine.execOrAndPpp pd ps pt pu s
  | .orAndPppn pd ps pt pu => Sys2Proof.Machine.execOrAndPppn pd ps pt pu s
  | .orOrPpp pd ps pt pu => Sys2Proof.Machine.execOrOrPpp pd ps pt pu s
  | .orOrPppn pd ps pt pu => Sys2Proof.Machine.execOrOrPppn pd ps pt pu s
  | .notP pd ps => Sys2Proof.Machine.execNotP pd ps s
  | .xorPp pd ps pt => Sys2Proof.Machine.execXorPp pd ps pt s
  | .any8 pd ps => Sys2Proof.Machine.execAny8 pd ps s
  | .all8 pd ps => Sys2Proof.Machine.execAll8 pd ps s
  | .tfrP4r rs => Sys2Proof.Machine.execTfrP4r rs s
  | .tfrRp4 rd => Sys2Proof.Machine.execTfrRp4 rd s
  | .tfrC54 rss => Sys2Proof.Machine.execTfrC54 rss s
  | .jump lbl => Sys2Proof.Machine.execJump lbl s
  | .jumpIfT pu lbl => Sys2Proof.Machine.execJumpIfT pu lbl s
  | .jumpIfF pu lbl => Sys2Proof.Machine.execJumpIfF pu lbl s
  | .jumpIfTnew pu lbl => Sys2Proof.Machine.execJumpIfTnew pu lbl s
  | .jumpIfFnew pu lbl => Sys2Proof.Machine.execJumpIfFnew pu lbl s
  | .call lbl => Sys2Proof.Machine.execCall lbl s
  | .callIfT pu lbl => Sys2Proof.Machine.execCallIfT pu lbl s
  | .callIfF pu lbl => Sys2Proof.Machine.execCallIfF pu lbl s
  | .callIfTnew pu lbl => Sys2Proof.Machine.execCallIfTnew pu lbl s
  | .callIfFnew pu lbl => Sys2Proof.Machine.execCallIfFnew pu lbl s
  | .jumpr rs => Sys2Proof.Machine.execJumpr rs s
  | .jumprIfT pu rs => Sys2Proof.Machine.execJumprIfT pu rs s
  | .jumprIfF pu rs => Sys2Proof.Machine.execJumprIfF pu rs s
  | .jumprIfTnew pu rs => Sys2Proof.Machine.execJumprIfTnew pu rs s
  | .jumprIfFnew pu rs => Sys2Proof.Machine.execJumprIfFnew pu rs s
  | .callr rs => Sys2Proof.Machine.execCallr rs s
  | .callrIfT pu rs => Sys2Proof.Machine.execCallrIfT pu rs s
  | .callrIfF pu rs => Sys2Proof.Machine.execCallrIfF pu rs s
  | .callrIfTnew pu rs => Sys2Proof.Machine.execCallrIfTnew pu rs s
  | .callrIfFnew pu rs => Sys2Proof.Machine.execCallrIfFnew pu rs s
  | .memwLd rd rs => Sys2Proof.Machine.execMemwLd rd rs s
  | .memwLdIfT pu rd rs => Sys2Proof.Machine.execMemwLdIfT pu rd rs s
  | .memwLdIfF pu rd rs => Sys2Proof.Machine.execMemwLdIfF pu rd rs s
  | .memwLdIfTnew pu rd rs => Sys2Proof.Machine.execMemwLdIfTnew pu rd rs s
  | .memwLdIfFnew pu rd rs => Sys2Proof.Machine.execMemwLdIfFnew pu rd rs s
  | .memdLd rdd rs => Sys2Proof.Machine.execMemdLd rdd rs s
  | .memdLdIfT pu rdd rs => Sys2Proof.Machine.execMemdLdIfT pu rdd rs s
  | .memdLdIfF pu rdd rs => Sys2Proof.Machine.execMemdLdIfF pu rdd rs s
  | .memdLdIfTnew pu rdd rs => Sys2Proof.Machine.execMemdLdIfTnew pu rdd rs s
  | .memdLdIfFnew pu rdd rs => Sys2Proof.Machine.execMemdLdIfFnew pu rdd rs s
  | .membLd rd rs => Sys2Proof.Machine.execMembLd rd rs s
  | .membLdIfT pu rd rs => Sys2Proof.Machine.execMembLdIfT pu rd rs s
  | .membLdIfF pu rd rs => Sys2Proof.Machine.execMembLdIfF pu rd rs s
  | .membLdIfTnew pu rd rs => Sys2Proof.Machine.execMembLdIfTnew pu rd rs s
  | .membLdIfFnew pu rd rs => Sys2Proof.Machine.execMembLdIfFnew pu rd rs s
  | .memubLd rd rs => Sys2Proof.Machine.execMemubLd rd rs s
  | .memubLdIfT pu rd rs => Sys2Proof.Machine.execMemubLdIfT pu rd rs s
  | .memubLdIfF pu rd rs => Sys2Proof.Machine.execMemubLdIfF pu rd rs s
  | .memubLdIfTnew pu rd rs => Sys2Proof.Machine.execMemubLdIfTnew pu rd rs s
  | .memubLdIfFnew pu rd rs => Sys2Proof.Machine.execMemubLdIfFnew pu rd rs s
  | .memhLd rd rs => Sys2Proof.Machine.execMemhLd rd rs s
  | .memhLdIfT pu rd rs => Sys2Proof.Machine.execMemhLdIfT pu rd rs s
  | .memhLdIfF pu rd rs => Sys2Proof.Machine.execMemhLdIfF pu rd rs s
  | .memhLdIfTnew pu rd rs => Sys2Proof.Machine.execMemhLdIfTnew pu rd rs s
  | .memhLdIfFnew pu rd rs => Sys2Proof.Machine.execMemhLdIfFnew pu rd rs s
  | .memuhLd rd rs => Sys2Proof.Machine.execMemuhLd rd rs s
  | .memuhLdIfT pu rd rs => Sys2Proof.Machine.execMemuhLdIfT pu rd rs s
  | .memuhLdIfF pu rd rs => Sys2Proof.Machine.execMemuhLdIfF pu rd rs s
  | .memuhLdIfTnew pu rd rs => Sys2Proof.Machine.execMemuhLdIfTnew pu rd rs s
  | .memuhLdIfFnew pu rd rs => Sys2Proof.Machine.execMemuhLdIfFnew pu rd rs s
  | .memwSt rs rt => Sys2Proof.Machine.execMemwSt rs rt s
  | .memwStIfT pu rs rt => Sys2Proof.Machine.execMemwStIfT pu rs rt s
  | .memwStIfF pu rs rt => Sys2Proof.Machine.execMemwStIfF pu rs rt s
  | .memwStIfTnew pu rs rt => Sys2Proof.Machine.execMemwStIfTnew pu rs rt s
  | .memwStIfFnew pu rs rt => Sys2Proof.Machine.execMemwStIfFnew pu rs rt s
  | .memdSt rs rtt => Sys2Proof.Machine.execMemdSt rs rtt s
  | .memdStIfT pu rs rtt => Sys2Proof.Machine.execMemdStIfT pu rs rtt s
  | .memdStIfF pu rs rtt => Sys2Proof.Machine.execMemdStIfF pu rs rtt s
  | .memdStIfTnew pu rs rtt => Sys2Proof.Machine.execMemdStIfTnew pu rs rtt s
  | .memdStIfFnew pu rs rtt => Sys2Proof.Machine.execMemdStIfFnew pu rs rtt s
  | .membSt rs rt => Sys2Proof.Machine.execMembSt rs rt s
  | .membStIfT pu rs rt => Sys2Proof.Machine.execMembStIfT pu rs rt s
  | .membStIfF pu rs rt => Sys2Proof.Machine.execMembStIfF pu rs rt s
  | .membStIfTnew pu rs rt => Sys2Proof.Machine.execMembStIfTnew pu rs rt s
  | .membStIfFnew pu rs rt => Sys2Proof.Machine.execMembStIfFnew pu rs rt s
  | .memhSt rs rt => Sys2Proof.Machine.execMemhSt rs rt s
  | .memhStIfT pu rs rt => Sys2Proof.Machine.execMemhStIfT pu rs rt s
  | .memhStIfF pu rs rt => Sys2Proof.Machine.execMemhStIfF pu rs rt s
  | .memhStIfTnew pu rs rt => Sys2Proof.Machine.execMemhStIfTnew pu rs rt s
  | .memhStIfFnew pu rs rt => Sys2Proof.Machine.execMemhStIfFnew pu rs rt s
  | .addRr rd rs rt => Sys2Proof.Machine.execAddRr rd rs rt s
  | .addRrIfT pu rd rs rt => Sys2Proof.Machine.execAddRrIfT pu rd rs rt s
  | .addRrIfF pu rd rs rt => Sys2Proof.Machine.execAddRrIfF pu rd rs rt s
  | .addRrIfTnew pu rd rs rt => Sys2Proof.Machine.execAddRrIfTnew pu rd rs rt s
  | .addRrIfFnew pu rd rs rt => Sys2Proof.Machine.execAddRrIfFnew pu rd rs rt s
  | .addRi rd rs imm => Sys2Proof.Machine.execAddRi rd rs imm s
  | .addRiIfT pu rd rs imm => Sys2Proof.Machine.execAddRiIfT pu rd rs imm s
  | .addRiIfF pu rd rs imm => Sys2Proof.Machine.execAddRiIfF pu rd rs imm s
  | .addRiIfTnew pu rd rs imm => Sys2Proof.Machine.execAddRiIfTnew pu rd rs imm s
  | .addRiIfFnew pu rd rs imm => Sys2Proof.Machine.execAddRiIfFnew pu rd rs imm s
  | .subRr rd rt rs => Sys2Proof.Machine.execSubRr rd rt rs s
  | .subRrIfT pu rd rt rs => Sys2Proof.Machine.execSubRrIfT pu rd rt rs s
  | .subRrIfF pu rd rt rs => Sys2Proof.Machine.execSubRrIfF pu rd rt rs s
  | .subRrIfTnew pu rd rt rs => Sys2Proof.Machine.execSubRrIfTnew pu rd rt rs s
  | .subRrIfFnew pu rd rt rs => Sys2Proof.Machine.execSubRrIfFnew pu rd rt rs s
  | .andRr rd rs rt => Sys2Proof.Machine.execAndRr rd rs rt s
  | .andRrIfT pu rd rs rt => Sys2Proof.Machine.execAndRrIfT pu rd rs rt s
  | .andRrIfF pu rd rs rt => Sys2Proof.Machine.execAndRrIfF pu rd rs rt s
  | .andRrIfTnew pu rd rs rt => Sys2Proof.Machine.execAndRrIfTnew pu rd rs rt s
  | .andRrIfFnew pu rd rs rt => Sys2Proof.Machine.execAndRrIfFnew pu rd rs rt s
  | .orRr rd rs rt => Sys2Proof.Machine.execOrRr rd rs rt s
  | .orRrIfT pu rd rs rt => Sys2Proof.Machine.execOrRrIfT pu rd rs rt s
  | .orRrIfF pu rd rs rt => Sys2Proof.Machine.execOrRrIfF pu rd rs rt s
  | .orRrIfTnew pu rd rs rt => Sys2Proof.Machine.execOrRrIfTnew pu rd rs rt s
  | .orRrIfFnew pu rd rs rt => Sys2Proof.Machine.execOrRrIfFnew pu rd rs rt s
  | .xorRr rd rs rt => Sys2Proof.Machine.execXorRr rd rs rt s
  | .xorRrIfT pu rd rs rt => Sys2Proof.Machine.execXorRrIfT pu rd rs rt s
  | .xorRrIfF pu rd rs rt => Sys2Proof.Machine.execXorRrIfF pu rd rs rt s
  | .xorRrIfTnew pu rd rs rt => Sys2Proof.Machine.execXorRrIfTnew pu rd rs rt s
  | .xorRrIfFnew pu rd rs rt => Sys2Proof.Machine.execXorRrIfFnew pu rd rs rt s
  | .aslh rd rs => Sys2Proof.Machine.execAslh rd rs s
  | .aslhIfT pu rd rs => Sys2Proof.Machine.execAslhIfT pu rd rs s
  | .aslhIfF pu rd rs => Sys2Proof.Machine.execAslhIfF pu rd rs s
  | .aslhIfTnew pu rd rs => Sys2Proof.Machine.execAslhIfTnew pu rd rs s
  | .aslhIfFnew pu rd rs => Sys2Proof.Machine.execAslhIfFnew pu rd rs s
  | .asrh rd rs => Sys2Proof.Machine.execAsrh rd rs s
  | .asrhIfT pu rd rs => Sys2Proof.Machine.execAsrhIfT pu rd rs s
  | .asrhIfF pu rd rs => Sys2Proof.Machine.execAsrhIfF pu rd rs s
  | .asrhIfTnew pu rd rs => Sys2Proof.Machine.execAsrhIfTnew pu rd rs s
  | .asrhIfFnew pu rd rs => Sys2Proof.Machine.execAsrhIfFnew pu rd rs s
  | .sxtb rd rs => Sys2Proof.Machine.execSxtb rd rs s
  | .sxtbIfT pu rd rs => Sys2Proof.Machine.execSxtbIfT pu rd rs s
  | .sxtbIfF pu rd rs => Sys2Proof.Machine.execSxtbIfF pu rd rs s
  | .sxtbIfTnew pu rd rs => Sys2Proof.Machine.execSxtbIfTnew pu rd rs s
  | .sxtbIfFnew pu rd rs => Sys2Proof.Machine.execSxtbIfFnew pu rd rs s
  | .sxth rd rs => Sys2Proof.Machine.execSxth rd rs s
  | .sxthIfT pu rd rs => Sys2Proof.Machine.execSxthIfT pu rd rs s
  | .sxthIfF pu rd rs => Sys2Proof.Machine.execSxthIfF pu rd rs s
  | .sxthIfTnew pu rd rs => Sys2Proof.Machine.execSxthIfTnew pu rd rs s
  | .sxthIfFnew pu rd rs => Sys2Proof.Machine.execSxthIfFnew pu rd rs s
  | .zxtb rd rs => Sys2Proof.Machine.execZxtb rd rs s
  | .zxtbIfT pu rd rs => Sys2Proof.Machine.execZxtbIfT pu rd rs s
  | .zxtbIfF pu rd rs => Sys2Proof.Machine.execZxtbIfF pu rd rs s
  | .zxtbIfTnew pu rd rs => Sys2Proof.Machine.execZxtbIfTnew pu rd rs s
  | .zxtbIfFnew pu rd rs => Sys2Proof.Machine.execZxtbIfFnew pu rd rs s
  | .zxth rd rs => Sys2Proof.Machine.execZxth rd rs s
  | .zxthIfT pu rd rs => Sys2Proof.Machine.execZxthIfT pu rd rs s
  | .zxthIfF pu rd rs => Sys2Proof.Machine.execZxthIfF pu rd rs s
  | .zxthIfTnew pu rd rs => Sys2Proof.Machine.execZxthIfTnew pu rd rs s
  | .zxthIfFnew pu rd rs => Sys2Proof.Machine.execZxthIfFnew pu rd rs s
  | .tfr rd rs => Sys2Proof.Machine.execTfr rd rs s
  | .tfrIfT pu rd rs => Sys2Proof.Machine.execTfrIfT pu rd rs s
  | .tfrIfF pu rd rs => Sys2Proof.Machine.execTfrIfF pu rd rs s
  | .tfrIfTnew pu rd rs => Sys2Proof.Machine.execTfrIfTnew pu rd rs s
  | .tfrIfFnew pu rd rs => Sys2Proof.Machine.execTfrIfFnew pu rd rs s
  | .combine rdd rs rt => Sys2Proof.Machine.execCombine rdd rs rt s
  | .combineIfT pu rdd rs rt => Sys2Proof.Machine.execCombineIfT pu rdd rs rt s
  | .combineIfF pu rdd rs rt => Sys2Proof.Machine.execCombineIfF pu rdd rs rt s
  | .combineIfTnew pu rdd rs rt => Sys2Proof.Machine.execCombineIfTnew pu rdd rs rt s
  | .combineIfFnew pu rdd rs rt => Sys2Proof.Machine.execCombineIfFnew pu rdd rs rt s
  | .tfri rd imm => Sys2Proof.Machine.execTfri rd imm s
  | .tfriIfT pu rd imm => Sys2Proof.Machine.execTfriIfT pu rd imm s
  | .tfriIfF pu rd imm => Sys2Proof.Machine.execTfriIfF pu rd imm s
  | .tfriIfTnew pu rd imm => Sys2Proof.Machine.execTfriIfTnew pu rd imm s
  | .tfriIfFnew pu rd imm => Sys2Proof.Machine.execTfriIfFnew pu rd imm s
  | .deallocReturn => Sys2Proof.Machine.execDeallocReturn s
  | .deallocReturnIfT pu => Sys2Proof.Machine.execDeallocReturnIfT pu s
  | .deallocReturnIfF pu => Sys2Proof.Machine.execDeallocReturnIfF pu s
  | .deallocReturnIfTnew pu => Sys2Proof.Machine.execDeallocReturnIfTnew pu s
  | .deallocReturnIfFnew pu => Sys2Proof.Machine.execDeallocReturnIfFnew pu s
  | .muxRr rd ps rs rt => Sys2Proof.Machine.execMuxRr rd ps rs rt s
  | .vcmpbEq pd rss rtt => Sys2Proof.Machine.execVcmpbEq pd rss rtt s
  | .vcmphEq pd rss rtt => Sys2Proof.Machine.execVcmphEq pd rss rtt s
  | .vcmpwEq pd rss rtt => Sys2Proof.Machine.execVcmpwEq pd rss rtt s
  | .vcmpbGt pd rss rtt => Sys2Proof.Machine.execVcmpbGt pd rss rtt s
  | .vcmpbGtu pd rss rtt => Sys2Proof.Machine.execVcmpbGtu pd rss rtt s
  | .vcmphGt pd rss rtt => Sys2Proof.Machine.execVcmphGt pd rss rtt s
  | .vcmphGtu pd rss rtt => Sys2Proof.Machine.execVcmphGtu pd rss rtt s
  | .vcmpwGt pd rss rtt => Sys2Proof.Machine.execVcmpwGt pd rss rtt s
  | .vcmpwGtu pd rss rtt => Sys2Proof.Machine.execVcmpwGtu pd rss rtt s
  | .vmux rdd ps rss rtt => Sys2Proof.Machine.execVmux rdd ps rss rtt s

end Sys2Proof.Machine
end

