-- ==== Sys2Proof/Machine/Grouping.lean ====
section
/-!
DEFINITION. Which instructions may stand together in a packet: the part each operation plays
(`spec/42_packet_predicate_rules.md` rules R306, R308, R320; `spec/20_memory.md` rule R44) and the static checks of a
packet's instructions (R324, R311; `spec/30_encoding.md` rule R53; `spec/41_conditional_instructions.md` rule R210).
-/

namespace Sys2Proof.Machine

/-! ### The part an operation plays in its packet -/

/-- Whether a predicate writer may share its destination with other writers: the rows of R306. -/
inductive Sharing where
  /-- Compares, bit tests, vector compares and `Pd = Ps`: yes. -/
  | compare
  /-- Predicate logical instructions: if `AutoAndLogical` is set (D28). -/
  | logical
  /-- `sfclass`, `dfclass`, `boundscheck`: if `AutoAndOther` is set (D39). -/
  | other
  /-- The restricted list and the transfers from general registers: no (R308). -/
  | never
  deriving DecidableEq, Repr

/-- The admission switches of R4. -/
inductive Switch where
  /-- `AdmitTlbmatch` (D13). -/
  | tlbmatch
  /-- `AdmitGK` (D30). -/
  | gk
  deriving DecidableEq, Repr

/-- What the static checks need to know of an operation. -/
structure Role where
  /-- The predicate registers it writes. -/
  preds : List PReg
  /-- Whether it may share them. -/
  sharing : Sharing
  /-- It is a transfer to `P3:0` or `C5:4`. -/
  quad : Bool
  /-- The general registers it writes, a pair as both of its registers (R11, R320, D32). -/
  regs : List GReg
  /-- It is a memory instruction (R44). -/
  memory : Bool
  /-- It is a jump, a call or a return (R304, D29). -/
  control : Bool
  /-- The switch it needs. -/
  switch : Option Switch
  deriving DecidableEq, Repr

/-- A writer of one predicate register. -/
def Role.generator (sharing : Sharing) (pd : PReg) : Role :=
  { preds := [pd], sharing := sharing, quad := false, regs := [], memory := false, control := false, switch := none }

/-- A store conditional: a memory instruction that writes a predicate register (R308). -/
def Role.storeConditional (pd : PReg) : Role := { Role.generator .never pd with memory := true }

/-- A transfer to the predicate quadruple (R308, R520, R522). -/
def Role.quadruple : Role :=
  { preds := [0, 1, 2, 3], sharing := .never, quad := true, regs := [], memory := false, control := false,
    switch := none }

/-- A writer of general registers only. -/
def Role.writer (regs : List GReg) : Role :=
  { preds := [], sharing := .never, quad := false, regs := regs, memory := false, control := false, switch := none }

/-- A load or a store. -/
def Role.access (regs : List GReg) : Role := { Role.writer regs with memory := true }

/-- A jump or a call. -/
def Role.transfer (regs : List GReg) : Role := { Role.writer regs with control := true }

/-- The role, for an instruction that needs a switch. -/
def Role.under (r : Role) (w : Switch) : Role := { r with switch := some w }

/-- `dealloc_return`: a load, a writer of three registers and a jump at once (R231). -/
def Role.gkReturn : Role :=
  { Role.writer [29, 30, 31] with memory := true, control := true, switch := some .gk }

/-- Both registers of a pair (R11). -/
def pairRegs (k : PairReg) : List GReg := [evenReg k, oddReg k]

end Sys2Proof.Machine

namespace Sys2Proof

open Machine in
/-- The part of each operation. -/
def Operation.role : Operation → Role
  | .cmpbEqRr pd _ _ => .generator .compare pd
  | .cmpbEqRi pd _ _ => .generator .compare pd
  | .cmphEqRr pd _ _ => .generator .compare pd
  | .cmphEqRi pd _ _ => .generator .compare pd
  | .cmpEqRr pd _ _ => .generator .compare pd
  | .ncmpEqRr pd _ _ => .generator .compare pd
  | .cmpEqRi pd _ _ => .generator .compare pd
  | .ncmpEqRi pd _ _ => .generator .compare pd
  | .cmpEqPp pd _ _ => .generator .compare pd
  | .sfcmpEq pd _ _ => .generator .never pd
  | .dfcmpEq pd _ _ => .generator .never pd
  | .cmpbGtRr pd _ _ => .generator .compare pd
  | .cmpbGtRi pd _ _ => .generator .compare pd
  | .cmphGtRr pd _ _ => .generator .compare pd
  | .cmphGtRi pd _ _ => .generator .compare pd
  | .cmpGtRr pd _ _ => .generator .compare pd
  | .ncmpGtRr pd _ _ => .generator .compare pd
  | .cmpGtRi pd _ _ => .generator .compare pd
  | .ncmpGtRi pd _ _ => .generator .compare pd
  | .cmpGtPp pd _ _ => .generator .compare pd
  | .sfcmpGt pd _ _ => .generator .never pd
  | .dfcmpGt pd _ _ => .generator .never pd
  | .cmpbGtuRr pd _ _ => .generator .compare pd
  | .cmpbGtuRi pd _ _ => .generator .compare pd
  | .cmphGtuRr pd _ _ => .generator .compare pd
  | .cmphGtuRi pd _ _ => .generator .compare pd
  | .cmpGtuRr pd _ _ => .generator .compare pd
  | .ncmpGtuRr pd _ _ => .generator .compare pd
  | .cmpGtuRi pd _ _ => .generator .compare pd
  | .ncmpGtuRi pd _ _ => .generator .compare pd
  | .cmpGtuPp pd _ _ => .generator .compare pd
  | .cmpGeRi pd _ _ => .generator .compare pd
  | .sfcmpGe pd _ _ => .generator .never pd
  | .dfcmpGe pd _ _ => .generator .never pd
  | .cmpGeuRi pd _ _ => .generator .compare pd
  | .cmpLtRr pd _ _ => .generator .compare pd
  | .cmpLtuRr pd _ _ => .generator .compare pd
  | .sfcmpUo pd _ _ => .generator .never pd
  | .dfcmpUo pd _ _ => .generator .never pd
  | .sfclass pd _ _ => .generator .other pd
  | .dfclass pd _ _ => .generator .other pd
  | .tstbitRr pd _ _ => .generator .compare pd
  | .ntstbitRr pd _ _ => .generator .compare pd
  | .tstbitRi pd _ _ => .generator .compare pd
  | .ntstbitRi pd _ _ => .generator .compare pd
  | .bitsclrRr pd _ _ => .generator .compare pd
  | .nbitsclrRr pd _ _ => .generator .compare pd
  | .bitsclrRi pd _ _ => .generator .compare pd
  | .nbitsclrRi pd _ _ => .generator .compare pd
  | .bitssetRr pd _ _ => .generator .compare pd
  | .nbitssetRr pd _ _ => .generator .compare pd
  | .memwLockedSt _ pd _ => .storeConditional pd
  | .memdLockedSt _ pd _ => .storeConditional pd
  | .boundscheck pd _ _ => .generator .other pd
  | .tlbmatch pd _ _ => (Role.generator .never pd).under .tlbmatch
  | .cmpEqToR rd _ _ => .writer [rd]
  | .tfrPp pd _ => .generator .compare pd
  | .tfrPr pd _ => .generator .never pd
  | .tfrRp rd _ => .writer [rd]
  | .andPp pd _ _ => .generator .logical pd
  | .andPpn pd _ _ => .generator .logical pd
  | .orPp pd _ _ => .generator .logical pd
  | .orPpn pd _ _ => .generator .logical pd
  | .andAndPpp pd _ _ _ => .generator .logical pd
  | .andAndPppn pd _ _ _ => .generator .logical pd
  | .andOrPpp pd _ _ _ => .generator .logical pd
  | .andOrPppn pd _ _ _ => .generator .logical pd
  | .orAndPpp pd _ _ _ => .generator .logical pd
  | .orAndPppn pd _ _ _ => .generator .logical pd
  | .orOrPpp pd _ _ _ => .generator .logical pd
  | .orOrPppn pd _ _ _ => .generator .logical pd
  | .notP pd _ => .generator .logical pd
  | .xorPp pd _ _ => .generator .logical pd
  | .any8 pd _ => .generator .logical pd
  | .all8 pd _ => .generator .logical pd
  | .tfrP4r _ => .quadruple
  | .tfrRp4 rd => .writer [rd]
  | .tfrC54 _ => .quadruple
  | .jump _ => .transfer []
  | .call _ => (Role.transfer [31]).under .gk
  | .jumpr _ => (Role.transfer []).under .gk
  | .callr _ => (Role.transfer [31]).under .gk
  | .memwLd rd _ => .access [rd]
  | .memdLd rdd _ => .access (pairRegs rdd)
  | .membLd rd _ => (Role.access [rd]).under .gk
  | .memubLd rd _ => (Role.access [rd]).under .gk
  | .memhLd rd _ => (Role.access [rd]).under .gk
  | .memuhLd rd _ => (Role.access [rd]).under .gk
  | .memwSt _ _ => .access []
  | .memdSt _ _ => .access []
  | .membSt _ _ => (Role.access []).under .gk
  | .memhSt _ _ => (Role.access []).under .gk
  | .addRr rd _ _ => .writer [rd]
  | .addRi rd _ _ => .writer [rd]
  | .subRr rd _ _ => .writer [rd]
  | .andRr rd _ _ => .writer [rd]
  | .orRr rd _ _ => .writer [rd]
  | .xorRr rd _ _ => .writer [rd]
  | .aslh rd _ => .writer [rd]
  | .asrh rd _ => .writer [rd]
  | .sxtb rd _ => .writer [rd]
  | .sxth rd _ => .writer [rd]
  | .zxtb rd _ => .writer [rd]
  | .zxth rd _ => .writer [rd]
  | .tfr rd _ => .writer [rd]
  | .combine rdd _ _ => .writer (pairRegs rdd)
  | .tfri rd _ => .writer [rd]
  | .deallocReturn => .gkReturn
  | .muxRr rd _ _ _ => .writer [rd]
  | .vcmpbEq pd _ _ => .generator .compare pd
  | .vcmphEq pd _ _ => .generator .compare pd
  | .vcmpwEq pd _ _ => .generator .compare pd
  | .vcmpbGt pd _ _ => (Role.generator .compare pd).under .gk
  | .vcmpbGtu pd _ _ => (Role.generator .compare pd).under .gk
  | .vcmphGt pd _ _ => (Role.generator .compare pd).under .gk
  | .vcmphGtu pd _ _ => (Role.generator .compare pd).under .gk
  | .vcmpwGt pd _ _ => (Role.generator .compare pd).under .gk
  | .vcmpwGtu pd _ _ => (Role.generator .compare pd).under .gk
  | .vmux rdd _ _ _ => .writer (pairRegs rdd)

/-- The part of an instruction: its operation's. -/
def Instr.role (i : Instr) : Machine.Role := i.op.role

/-- The predicate register that the instruction's guard reads in its `.new` form, if it does. -/
def Instr.newReg (i : Instr) : Option PReg := i.guard.bind Guard.newReg

end Sys2Proof

namespace Sys2Proof.Machine

/-! ### The static checks (R324) -/

/-- Some two instructions of the packet stand in the relation. -/
def anyPair {α : Type} (f : α → α → Bool) : List α → Bool
  | [] => false
  | x :: xs => xs.any (f x) || anyPair f xs

/-- The writer may be one of several writers of its predicate register (R306). -/
def Launch.mayShare (l : Launch) : Sharing → Bool
  | .compare => true
  | .logical => l.autoAndLogical
  | .other => l.autoAndOther
  | .never => false

/-- The switch is on (R4). -/
def Launch.switchOn (l : Launch) : Switch → Bool
  | .tlbmatch => l.tlbmatchOn
  | .gk => l.gkOn

/-- The instruction is a producer of `Pu` for a `.new` guard: a writer of it that is no quadruple transfer
(R311, D38). -/
def produces (u : PReg) (i : Instr) : Bool := i.role.preds.contains u && !i.role.quad

/-- The guard reads `Pu.new` and the packet has no producer of `Pu` (R311). -/
def lacksProducer (is : List Instr) (i : Instr) : Bool :=
  match i.newReg with
  | some u => !is.any (produces u)
  | none => false

/-- Two writers of one predicate register of which one may not share it (R306, R323). -/
def predConflict (l : Launch) (i j : Instr) : Bool :=
  i.role.preds.any j.role.preds.contains && !(l.mayShare i.role.sharing && l.mayShare j.role.sharing)

/-- A quadruple transfer and another predicate writer (R308). -/
def quadConflict (i j : Instr) : Bool :=
  (i.role.quad && !j.role.preds.isEmpty) || (j.role.quad && !i.role.preds.isEmpty)

/-- Two writers of one general register that are not both guarded (R320, R321, D31). -/
def regConflict (i j : Instr) : Bool :=
  i.role.regs.any j.role.regs.contains && !(i.guard.isSome && j.guard.isSome)

/-- The instruction names a label that the program does not define (R210). -/
def Launch.lacksLabel (l : Launch) (i : Instr) : Bool :=
  match i.op.label with
  | some name => (l.labelAddr name).isNone
  | none => false

/-- The switch that the instruction needs is off (D13, D30). -/
def Launch.lacksSwitch (l : Launch) (i : Instr) : Bool :=
  match i.role.switch with
  | some w => !l.switchOn w
  | none => false

/-- The static checks of the instructions of a packet, in the order in which the model makes them (entry 15): each
with the refusal that it leads to. -/
def Launch.checks (l : Launch) (is : List Instr) : List (Bool × Refusal) :=
  [ (is.any fun i => !i.immediateOk, .immediateOutOfRange),
    (is.any l.lacksLabel, .unknownLabel),
    (is.any (lacksProducer is), .illFormedPacket .newWithoutProducer),
    (anyPair quadConflict is, .illFormedPacket .quadrupleGrouped),
    (anyPair (predConflict l) is, .illFormedPacket .sharedPredicate),
    (anyPair regConflict is, .illFormedPacket .doubleWrite),
    (decide (1 < is.countP fun i => i.role.control), .illFormedPacket .twoTransfers),
    (decide (Config.maxMemory < is.countP fun i => i.role.memory), .illFormedPacket .memoryInstructions),
    (is.any l.lacksSwitch, .illFormedPacket .switchedOff) ]

/-- The refusal of the first check that fails, if one does. -/
def Launch.refusal (l : Launch) (is : List Instr) : Option Refusal :=
  ((l.checks is).find? fun c => c.1).map fun c => c.2

end Sys2Proof.Machine
end

