-- ==== Sys2Proof/Machine/Packet.lean ====
section
/-!
DEFINITION. The packet step, phase by phase (`spec/42_packet_predicate_rules.md` rules R300, R303 to R305, R310, R322;
`spec/20_memory.md` rule R44; `spec/60_exceptions.md` rules R603, R607), and how a text is put where the step finds its
next packet.
-/

namespace Sys2Proof.Machine

/-! ### Phase 0: the packet at the pc and its static checks -/

/-- `prog(pc)`: the first packet of the program at the address (R300; entry 38). DESIGN CHOICE: an address that is no
multiple of `INSN_BYTES` is looked up like any other (entry 40). -/
def Launch.packetAt (l : Launch) (a : Word) : Option PacketText := l.packets.find? fun p => p.addr == a

/-- The instruction of a line. -/
def readText (line : Text) : Option Instr :=
  match decode line with
  | .ok i => some i
  | .error _ => none

/-- The instructions of a packet's lines; no answer if some line is no instruction of the spec (R324, D27). -/
def readLines : List Text → Option (List Instr)
  | [] => some []
  | line :: rest =>
    match readText line, readLines rest with
    | some i, some is => some (i :: is)
    | _, _ => none

/-- A packet has 1 to `MAXPKT` instructions (R51). -/
def sizeOk (n : Nat) : Bool := decide (1 ≤ n) && decide (n ≤ Config.maxPacket)

/-- The instructions of a packet that passes the static checks, or the refusal (R300 phase 0, R324). -/
def Launch.admitted (l : Launch) (p : PacketText) : Except Refusal (List Instr) :=
  if sizeOk p.lines.length then
    match readLines p.lines with
    | none => .error (.illFormedPacket .noRule)
    | some is =>
      match l.refusal is with
      | some r => .error r
      | none => .ok is
  else .error (.illFormedPacket .size)

/-! ### Phase 1: predicate generation -/

/-- The state at packet start, with no packet-local value computed, for a packet of `n` instructions. -/
def State.begin (s : State) (n : Nat) : State :=
  { s with pkt := { size := n, newP := Vector.replicate 4 none, effects := Effects.none } }

/-- The effects that an instruction records, none if it has no next state. -/
def effectsOf : Result → Effects
  | .next t => t.pkt.effects
  | .fault _ => Effects.none
  | .refused _ => Effects.none

/-- The predicate results of the packet's instructions, computed from the state at packet start. -/
def predResults (is : List Instr) (s : State) : List (PReg × Byte) :=
  is.flatMap fun i => (effectsOf (exec i s)).preds

/-- The bitwise AND of the results of all writers of `Pd` (R305); no value without a writer. -/
def combined (results : List (PReg × Byte)) (d : PReg) : Option Byte :=
  match results.filter fun r => decide (r.1 = d) with
  | [] => none
  | r :: rs => some (rs.foldl (fun v q => v &&& q.2) r.2)

/-- The newly generated predicate values (R300 phase 1). -/
def newValues (is : List Instr) (s : State) : Vector (Option Byte) 4 :=
  Vector.ofFn fun d : Fin 4 => combined (predResults is s) d

/-- The state that phases 2 and 3 read: that at packet start, with the newly generated predicate values (R301, R310). -/
def State.generated (s : State) (is : List Instr) : State :=
  { s.begin is.length with
    pkt := { size := is.length, newP := newValues is (s.begin is.length), effects := Effects.none } }

/-! ### Phases 2 and 3: guards and effects -/

/-- What each instruction of the packet does, all from the same state (R301, R302). -/
def outcomes (is : List Instr) (s : State) : List Result := is.map fun i => exec i s

/-- The outcome is one of the model's faults (R617). -/
def isModelFault : Result → Bool
  | .fault (.misalignedAccess _ _) => true
  | .fault (.raised _) => false
  | .next _ => false
  | .refused _ => false

/-- The outcome is an exception (R600). -/
def isRaise : Result → Bool
  | .fault (.raised _) => true
  | .fault (.misalignedAccess _ _) => false
  | .next _ => false
  | .refused _ => false

/-- The outcome is a refusal. -/
def isRefusal : Result → Bool
  | .refused _ => true
  | .fault _ => false
  | .next _ => false

/-- The outcome of the packet if some executed instruction has no next state (R300 phase 4, R603): faults before
exceptions (R607; entry 14). -/
def firstStop (os : List Result) : Option Result :=
  match os.find? isModelFault with
  | some o => some o
  | none =>
    match os.find? isRaise with
    | some o => some o
    | none => os.find? isRefusal

/-- The effects of two instructions together. -/
def Effects.merge (a b : Effects) : Effects :=
  { regs := a.regs ++ b.regs, preds := a.preds ++ b.preds, loads := a.loads ++ b.loads, stores := a.stores ++ b.stores,
    target := a.target.or b.target, clearsResv := a.clearsResv || b.clearsResv }

/-- The effects of the whole packet. -/
def merged (os : List Result) : Effects := os.foldr (fun o e => (effectsOf o).merge e) Effects.none

/-! ### Phase 4: checks on what the instructions do together -/

/-- A general register that two executed instructions write (R322). -/
def duplicate : List (GReg × Word) → Option GReg
  | [] => none
  | (r, _) :: rest => if rest.any fun w => decide (w.1 = r) then some r else duplicate rest

/-- Two byte ranges share a byte (R44). -/
def overlap (a n b m : Nat) : Bool := decide (a < b + m) && decide (b < a + n)

/-- A load and a store share a byte. -/
def Load.meets (x : Load) (y : Store) : Bool := overlap x.addr.toNat x.size y.addr.toNat y.bytes.length

/-- Two stores share a byte. -/
def Store.meets (x y : Store) : Bool := overlap x.addr.toNat x.bytes.length y.addr.toNat y.bytes.length

/-- Two executed accesses share a byte and one of them is a store (R44). -/
def Effects.overlapping (e : Effects) : Bool :=
  e.loads.any (fun x => e.stores.any x.meets) || anyPair Store.meets e.stores

/-- The next pc: the target of an executed transfer, else the address after the packet, which must not pass `2^32`
(R304, R19; entry 18). -/
def State.nextPc (s : State) (n : Nat) (e : Effects) : Option Word :=
  match e.target with
  | some a => some a
  | none => if s.pc.toNat + Config.insnBytes * n < 2 ^ 32 then some (s.pc + BitVec.ofNat 32 (Config.insnBytes * n)) else none

/-! ### Phase 5: commit -/

/-- Commit the general-register writes. -/
def commitRegs (regs : Vector Word 32) (ws : List (GReg × Word)) : Vector Word 32 :=
  ws.foldl (fun v w => v.set w.1.val w.2) regs

/-- Commit the predicates: `new.P[d]` where the packet has a writer of `Pd`, else the old value (R303). -/
def commitPreds (preds : Vector Byte 4) (new : Vector (Option Byte) 4) : Vector Byte 4 :=
  Vector.ofFn fun d : Fin 4 => new[d.val].getD preds[d.val]

/-- Commit the stores. -/
def commitStores (m : Memory) (stores : List Store) : Memory :=
  stores.foldl (fun m x => m.putBytes x.addr.toNat x.bytes) m

/-- The state after the packet (R300 phase 5). -/
def State.commit (s : State) (new : Vector (Option Byte) 4) (e : Effects) (pc : Word) : State :=
  { regs := commitRegs s.regs e.regs, preds := commitPreds s.preds new, pc := pc, mem := commitStores s.mem e.stores,
    resv := if e.clearsResv then none else s.resv, pkt := PacketLocal.none, launch := s.launch, tick := s.tick + 1 }

/-- Phases 4 and 5 for a packet of `n` instructions whose executed ones all have a next state. -/
def State.finish (s : State) (n : Nat) (new : Vector (Option Byte) 4) (e : Effects) : Result :=
  match duplicate e.regs with
  | some r => raise (.multipleWriteError r s.pc)
  | none =>
    if e.overlapping then .refused .overlappingPacketAccesses
    else
      match s.nextPc n e with
      | none => .refused .noPacketAtPc
      | some pc => .next (s.commit new e pc)

/-! ### The step -/

/-- Phases 1 to 5 for the instructions of an admitted packet (R300). -/
def State.runPacket (s : State) (is : List Instr) : Result :=
  match firstStop (outcomes is (s.generated is)) with
  | some o => o
  | none => s.finish is.length (s.generated is).pkt.newP (merged (outcomes is (s.generated is)))

/-- One packet (R300). At `HALT_PC` the run has ended (R704). -/
def packetStep (s : State) : Result :=
  if s.launch.haltPc = some s.pc then .refused .runEnded
  else
    match s.launch.packetAt s.pc with
    | none => .refused .noPacketAtPc
    | some p =>
      match s.launch.admitted p with
      | .error r => .refused r
      | .ok is => s.runPacket is

/-! ### Loading one instruction (entry 4) -/

/-- The lines of a packet that runs the instruction of a text: the text, and for a `.new` guard a producer of the
predicate register, `Pu = Pu`, without which no packet with that guard is well formed (R311). -/
def linesFor (text : Text) : List Text :=
  match readText text with
  | none => [text]
  | some i =>
    match i.newReg with
    | some u => [text, encode (.tfrPp u u)]
    | none => [text]

/-- The labels of that packet: the one that the instruction names, which must be a packet of the program (R210). -/
def labelsFor (text : Text) : List Label :=
  match readText text with
  | none => []
  | some i =>
    match i.op.label with
    | some name => [name]
    | none => []

/-- A launch of one packet at `pc`, with every instruction of the spec admitted. -/
def Launch.forText (l : Launch) (pc : Word) (text : Text) : Launch :=
  { l with packets := [{ addr := pc, labels := labelsFor text, lines := linesFor text }], haltPc := none,
           tlbmatchOn := true, gkOn := true }

end Sys2Proof.Machine
end

