-- ==== Sys2Proof/Machine/Step.lean ====
section
/-!
DEFINITION. The step of the machine, one packet (`spec/42_packet_predicate_rules.md` rule R300), and the state whose
next step runs a given instruction (entry 4).
-/

namespace Sys2Proof.Machine

/-- One step (R300). -/
def step (s : State) : Host.Outcome State Fault Refusal := packetStep s

/-- The state with the instruction whose text a number holds as the packet at the pc: the launch that loads it. -/
def State.withFetchWord (s : State) (nbits w : Nat) : State :=
  { s with launch := s.launch.forText s.pc (textOfWord nbits w) }

end Sys2Proof.Machine
end

