-- ==== Sys2Proof/Safety.lean ====
section
/-!
DEFINITION. The terms that claims are stated in: the invariants of the machine, when an access is in order, when a
state runs a packet, what the guarded forms of an operation do, and what a safe run is.
-/

namespace Sys2Proof.Machine

/-! ### Invariants -/

/-- The memory is in its canonical form and no packet-local value exists between packets (R21, R30). -/
def Inv (s : State) : Prop := s.mem.wf = true ∧ s.pkt = PacketLocal.none

/-- The pc and every address of the program are multiples of `INSN_BYTES`, which a launch need not give (entry 40), and
the register-indirect jumps are not admitted: then the pc stays so "by construction" (R19, R33). -/
def PcAligned (s : State) : Prop :=
  s.pc.toNat % Config.insnBytes = 0 ∧ s.launch.gkOn = false ∧
    ∀ p ∈ s.launch.packets, p.addr.toNat % Config.insnBytes = 0

/-! ### Accesses -/

/-- The checks of R33 and R34 let an executed access pass. -/
def AccessOk (s : State) (a : Word) (n : Nat) (kind : AccessKind) : Prop :=
  aligned a n = true ∧ s.permits a n kind = true

/-- The bytes `a` to `a + n - 1` hold the address `b`. -/
def Within (a : Word) (n : Nat) (b : Nat) : Prop := a.toNat ≤ b ∧ b < a.toNat + n

/-! ### Packets -/

/-- The packet at the pc passes the static checks and holds the instructions `is`, and the run has not ended. -/
def AtPacket (s : State) (is : List Instr) : Prop :=
  s.launch.haltPc ≠ some s.pc ∧
    ∃ p, s.launch.packetAt s.pc = some p ∧ s.launch.admitted p = .ok is

/-- The address after a packet of `n` instructions exists (R19). -/
def RoomAfter (s : State) (n : Nat) : Prop := s.pc.toNat + Config.insnBytes * n < 2 ^ 32

/-- The address after a packet of `n` instructions. -/
def State.pcAfter (s : State) (n : Nat) : Word := s.pc + BitVec.ofNat 32 (Config.insnBytes * n)

/-- The state after a packet of `n` instructions that wrote no register and no memory and transferred no control. -/
def State.after (s : State) (n : Nat) : State :=
  { s with pc := s.pcAfter n, pkt := PacketLocal.none, tick := s.tick + 1 }

/-! ### Results -/

/-- The instruction completes with the scalar truth value of `b` as its predicate result for `Pd`, and records nothing
else: 0xFF if `b` holds, else 0x00 (R7, R14, R100). -/
def Generates (i : Instr) (s : State) (pd : PReg) (b : Prop) : Prop :=
  (b → exec i s = .next (s.recordPred pd 0xFF#8)) ∧ (¬b → exec i s = .next (s.recordPred pd 0x00#8))

/-- In some state in whose packet nothing has been recorded, the instruction completes with a result for `Pd`: it is a
writer of `Pd` (R303, R306). Said through what the instruction does, not through the table of roles. -/
def CanGenerate (i : Instr) (pd : PReg) : Prop :=
  ∃ u t v, u.pkt.effects = Effects.none ∧ exec i u = .next t ∧ (pd, v) ∈ t.pkt.effects.preds

/-- A single-precision NaN (R157). -/
def SingleNaN (x : Word) : Prop := x.toNat / 2 ^ 23 % 2 ^ 8 = 0xFF ∧ x.toNat % 2 ^ 23 ≠ 0

/-- `key` of a single-precision value (R157). -/
def singleKey (x : Word) : Int := if x.toNat < 2 ^ 31 then (x.toNat : Int) else -((x.toNat : Int) - 2 ^ 31)

/-- A double-precision NaN (R157). -/
def DoubleNaN (x : DWord) : Prop := x.toNat / 2 ^ 52 % 2 ^ 11 = 0x7FF ∧ x.toNat % 2 ^ 52 ≠ 0

/-- `key` of a double-precision value (R157). -/
def doubleKey (x : DWord) : Int := if x.toNat < 2 ^ 63 then (x.toNat : Int) else -((x.toNat : Int) - 2 ^ 63)

/-! ### Guards -/

/-- What the four guarded forms of an operation do, `t` being the state to which the operation itself leads: a form
with a true guard leads to `t`, a form with a false guard leaves everything as it is (R200, R201). -/
def GuardedTo (s : State) (pu : PReg) (t : State) (ifT ifF ifTnew ifFnew : Result) : Prop :=
  ((s.pred pu).getLsbD 0 = true → ifT = .next t ∧ ifF = .next s) ∧
  ((s.pred pu).getLsbD 0 = false → ifT = .next s ∧ ifF = .next t) ∧
  ∀ v, s.newPred pu = some v →
    (v.getLsbD 0 = true → ifTnew = .next t ∧ ifFnew = .next s) ∧
    (v.getLsbD 0 = false → ifTnew = .next s ∧ ifFnew = .next t)

/-! ### Runs -/

/-- A run of `k` steps from a state meets no exception, no fault and no refusal. -/
def SafeFor : Nat → State → Prop
  | 0, _ => True
  | k + 1, s => ∃ t, step s = .next t ∧ SafeFor k t

/-- The run has ended well (R704). -/
def EndedWell (s : State) : Prop := s.launch.haltPc = some s.pc

end Sys2Proof.Machine
end

