-- ==== Sys2Proof/Certificates/Slice0/Obligations.lean ====
section
/-!
DEFINITION. The statements about the model, each from the rules of `spec/` that its docstring cites.
-/

open Sys2Proof Sys2Proof.Machine

/-- The 32-bit register compares complete with TV of the compare. For every state and all operands, each 32-bit register
compare (cmp.eq, !cmp.eq, cmp.gt, !cmp.gt, cmp.gtu, !cmp.gtu, cmp.lt, cmp.ltu) answers a next state that differs
from the old one by one predicate result for Pd only: 0xFF if the compare of the two registers holds (its negation,
for the forms with !), 0x00 otherwise. (R105, R106, R116, R117, R127, R128, R136, R137) -/
def Obligations.WordComparesGenerateTruthValues : Prop :=
  ∀ (pd : PReg) (rs rt : GReg) (s : State),
    Generates (.cmpEqRr pd rs rt) s pd (s.reg rs = s.reg rt) ∧
    Generates (.ncmpEqRr pd rs rt) s pd (s.reg rs ≠ s.reg rt) ∧
    Generates (.cmpGtRr pd rs rt) s pd ((s.reg rt).toInt < (s.reg rs).toInt) ∧
    Generates (.ncmpGtRr pd rs rt) s pd ((s.reg rs).toInt ≤ (s.reg rt).toInt) ∧
    Generates (.cmpGtuRr pd rs rt) s pd ((s.reg rt).toNat < (s.reg rs).toNat) ∧
    Generates (.ncmpGtuRr pd rs rt) s pd ((s.reg rs).toNat ≤ (s.reg rt).toNat) ∧
    Generates (.cmpLtRr pd rs rt) s pd ((s.reg rs).toInt < (s.reg rt).toInt) ∧
    Generates (.cmpLtuRr pd rs rt) s pd ((s.reg rs).toNat < (s.reg rt).toNat)

/-- The 32-bit immediate compares complete with TV of the compare. For every state and every immediate in the range of
its kind, each 32-bit compare with an immediate (cmp.eq, !cmp.eq, cmp.gt, !cmp.gt with #s10, cmp.gtu, !cmp.gtu with
#u9, cmp.ge with #s8, cmp.geu with #u8) answers a next state that differs by one predicate result for Pd: TV of the
compare of the register's signed or unsigned value with the number. (R107, R108, R118, R119, R129, R130, R132, R135) -/
def Obligations.WordImmediateComparesGenerateTruthValues : Prop :=
  ∀ (pd : PReg) (rs : GReg) (n : Int) (s : State),
    (-512 ≤ n ∧ n ≤ 511 →
      Generates (.cmpEqRi pd rs n) s pd ((s.reg rs).toInt = n) ∧
      Generates (.ncmpEqRi pd rs n) s pd ((s.reg rs).toInt ≠ n) ∧
      Generates (.cmpGtRi pd rs n) s pd (n < (s.reg rs).toInt) ∧
      Generates (.ncmpGtRi pd rs n) s pd ((s.reg rs).toInt ≤ n)) ∧
    (0 ≤ n ∧ n ≤ 511 →
      Generates (.cmpGtuRi pd rs n) s pd (n < ((s.reg rs).toNat : Int)) ∧
      Generates (.ncmpGtuRi pd rs n) s pd (((s.reg rs).toNat : Int) ≤ n)) ∧
    (-128 ≤ n ∧ n ≤ 127 → Generates (.cmpGeRi pd rs n) s pd (n ≤ (s.reg rs).toInt)) ∧
    (0 ≤ n ∧ n ≤ 255 → Generates (.cmpGeuRi pd rs n) s pd (n ≤ ((s.reg rs).toNat : Int)))

/-- The byte and halfword compares look at the low byte or halfword only. For every state and all operands (immediates
in range), each cmpb and cmph compare answers a next state that differs by one predicate result for Pd: TV of the
compare of the low 8 or 16 bits of the registers, or of those bits with the number. That the low part is the one
compared is the spec's decision D18 and the model's entry 24. (R101, R102, R103, R104, R112, R113, R114, R115, R123,
R124, R125, R126) -/
def Obligations.NarrowComparesGenerateTruthValues : Prop :=
  ∀ (pd : PReg) (rs rt : GReg) (n : Int) (s : State),
    Generates (.cmpbEqRr pd rs rt) s pd ((s.reg rs).toNat % 2 ^ 8 = (s.reg rt).toNat % 2 ^ 8) ∧
    Generates (.cmphEqRr pd rs rt) s pd ((s.reg rs).toNat % 2 ^ 16 = (s.reg rt).toNat % 2 ^ 16) ∧
    Generates (.cmpbGtRr pd rs rt) s pd (((s.reg rt).setWidth 8).toInt < ((s.reg rs).setWidth 8).toInt) ∧
    Generates (.cmphGtRr pd rs rt) s pd (((s.reg rt).setWidth 16).toInt < ((s.reg rs).setWidth 16).toInt) ∧
    Generates (.cmpbGtuRr pd rs rt) s pd ((s.reg rt).toNat % 2 ^ 8 < (s.reg rs).toNat % 2 ^ 8) ∧
    Generates (.cmphGtuRr pd rs rt) s pd ((s.reg rt).toNat % 2 ^ 16 < (s.reg rs).toNat % 2 ^ 16) ∧
    (0 ≤ n ∧ n ≤ 255 → Generates (.cmpbEqRi pd rs n) s pd ((((s.reg rs).toNat % 2 ^ 8 : Nat) : Int) = n)) ∧
    (-128 ≤ n ∧ n ≤ 127 →
      Generates (.cmphEqRi pd rs n) s pd (((s.reg rs).setWidth 16).toInt = n) ∧
      Generates (.cmpbGtRi pd rs n) s pd (n < ((s.reg rs).setWidth 8).toInt) ∧
      Generates (.cmphGtRi pd rs n) s pd (n < ((s.reg rs).setWidth 16).toInt)) ∧
    (0 ≤ n ∧ n ≤ 127 →
      Generates (.cmpbGtuRi pd rs n) s pd (n < (((s.reg rs).toNat % 2 ^ 8 : Nat) : Int)) ∧
      Generates (.cmphGtuRi pd rs n) s pd (n < (((s.reg rs).toNat % 2 ^ 16 : Nat) : Int)))

/-- The 64-bit compares complete with TV of the compare of the pairs. For every state and all pairs, cmp.eq, cmp.gt and
cmp.gtu on register pairs answer a next state that differs by one predicate result for Pd: TV of the compare of the
64-bit values whose high word is the odd register. (R109, R120, R131, R11) -/
def Obligations.DoublewordComparesGenerateTruthValues : Prop :=
  ∀ (pd : PReg) (rss rtt : PairReg) (s : State),
    Generates (.cmpEqPp pd rss rtt) s pd
      (s.reg (oddReg rss) = s.reg (oddReg rtt) ∧ s.reg (evenReg rss) = s.reg (evenReg rtt)) ∧
    Generates (.cmpGtPp pd rss rtt) s pd
      ((s.reg (oddReg rtt)).toInt * 2 ^ 32 + ((s.reg (evenReg rtt)).toNat : Int) <
        (s.reg (oddReg rss)).toInt * 2 ^ 32 + ((s.reg (evenReg rss)).toNat : Int)) ∧
    Generates (.cmpGtuPp pd rss rtt) s pd
      ((s.reg (oddReg rtt)).toNat * 2 ^ 32 + (s.reg (evenReg rtt)).toNat <
        (s.reg (oddReg rss)).toNat * 2 ^ 32 + (s.reg (evenReg rss)).toNat)

/-- The floating-point compares complete; eq, gt and ge are false on a NaN, uo is true. For every state and all
operands, each sfcmp and dfcmp answers a next state that differs by one predicate result for Pd: eq, gt and ge
compare the keys of operands of which neither is a NaN, uo says that one is a NaN. The formats and the treatment of
a NaN are the spec's decision D14 (entry 23). (R110, R111, R121, R122, R133, R134, R138, R139, R157) -/
def Obligations.FloatComparesGenerateTruthValues : Prop :=
  ∀ (pd : PReg) (rs rt : GReg) (rss rtt : PairReg) (s : State),
    Generates (.sfcmpEq pd rs rt) s pd
      (¬SingleNaN (s.reg rs) ∧ ¬SingleNaN (s.reg rt) ∧ singleKey (s.reg rs) = singleKey (s.reg rt)) ∧
    Generates (.sfcmpGt pd rs rt) s pd
      (¬SingleNaN (s.reg rs) ∧ ¬SingleNaN (s.reg rt) ∧ singleKey (s.reg rt) < singleKey (s.reg rs)) ∧
    Generates (.sfcmpGe pd rs rt) s pd
      (¬SingleNaN (s.reg rs) ∧ ¬SingleNaN (s.reg rt) ∧ singleKey (s.reg rt) ≤ singleKey (s.reg rs)) ∧
    Generates (.sfcmpUo pd rs rt) s pd (SingleNaN (s.reg rs) ∨ SingleNaN (s.reg rt)) ∧
    Generates (.dfcmpEq pd rss rtt) s pd
      (¬DoubleNaN (s.pair rss) ∧ ¬DoubleNaN (s.pair rtt) ∧ doubleKey (s.pair rss) = doubleKey (s.pair rtt)) ∧
    Generates (.dfcmpGt pd rss rtt) s pd
      (¬DoubleNaN (s.pair rss) ∧ ¬DoubleNaN (s.pair rtt) ∧ doubleKey (s.pair rtt) < doubleKey (s.pair rss)) ∧
    Generates (.dfcmpGe pd rss rtt) s pd
      (¬DoubleNaN (s.pair rss) ∧ ¬DoubleNaN (s.pair rtt) ∧ doubleKey (s.pair rtt) ≤ doubleKey (s.pair rss)) ∧
    Generates (.dfcmpUo pd rss rtt) s pd (DoubleNaN (s.pair rss) ∨ DoubleNaN (s.pair rtt))

/-- sfclass and dfclass complete; all classes give true, none gives false. For every state and every immediate of 0 to
31, sfclass and dfclass answer a next state that differs by one predicate result for Pd: TV of the immediate's bit
that ClassBit gives to the one class of the value; so #31 gives 0xFF and #0 gives 0x00 for every value and every
ClassBit. Which bit stands for which class is a launch parameter (entry 19). (R140, R141, R157) -/
def Obligations.ClassifyTestsTheClassBit : Prop :=
  ∀ (pd : PReg) (rs : GReg) (rss : PairReg) (n : Int) (s : State), 0 ≤ n ∧ n ≤ 31 →
    Generates (.sfclass pd rs n) s pd
      (n.toNat.testBit (s.launch.classBits.bit (single.classOf (s.reg rs))).val = true) ∧
    Generates (.dfclass pd rss n) s pd
      (n.toNat.testBit (s.launch.classBits.bit (double.classOf (s.pair rss))).val = true) ∧
    (single.classOf (s.reg rs) = .nan ↔ SingleNaN (s.reg rs)) ∧
    (double.classOf (s.pair rss) = .nan ↔ DoubleNaN (s.pair rss)) ∧
    exec (.sfclass pd rs 31) s = .next (s.recordPred pd 0xFF#8) ∧
    exec (.sfclass pd rs 0) s = .next (s.recordPred pd 0x00#8) ∧
    exec (.dfclass pd rss 31) s = .next (s.recordPred pd 0xFF#8) ∧
    exec (.dfclass pd rss 0) s = .next (s.recordPred pd 0x00#8)

/-- The mask and immediate bit tests complete with TV of the test. For every state, all operands and every immediate in
range, tstbit and !tstbit with an immediate, bitsclr, !bitsclr (register and immediate), bitsset and !bitsset answer
a next state that differs by one predicate result for Pd: TV of the test, said bit by bit. (R144, R145, R146, R147,
R148, R149, R150, R151) -/
def Obligations.BitTestsGenerateTruthValues : Prop :=
  ∀ (pd : PReg) (rs rt : GReg) (n : Int) (s : State),
    (0 ≤ n ∧ n ≤ 31 →
      Generates (.tstbitRi pd rs n) s pd ((s.reg rs).getLsbD n.toNat = true) ∧
      Generates (.ntstbitRi pd rs n) s pd ((s.reg rs).getLsbD n.toNat = false)) ∧
    Generates (.bitsclrRr pd rs rt) s pd
      (∀ k < 32, (s.reg rt).getLsbD k = true → (s.reg rs).getLsbD k = false) ∧
    Generates (.nbitsclrRr pd rs rt) s pd
      (∃ k < 32, (s.reg rt).getLsbD k = true ∧ (s.reg rs).getLsbD k = true) ∧
    (0 ≤ n ∧ n ≤ 63 →
      Generates (.bitsclrRi pd rs n) s pd (∀ k < 32, n.toNat.testBit k = true → (s.reg rs).getLsbD k = false) ∧
      Generates (.nbitsclrRi pd rs n) s pd (∃ k < 32, n.toNat.testBit k = true ∧ (s.reg rs).getLsbD k = true)) ∧
    Generates (.bitssetRr pd rs rt) s pd
      (∀ k < 32, (s.reg rt).getLsbD k = true → (s.reg rs).getLsbD k = true) ∧
    Generates (.nbitssetRr pd rs rt) s pd
      (∃ k < 32, (s.reg rt).getLsbD k = true ∧ (s.reg rs).getLsbD k = false)

/-- tstbit(Rs,Rt) tests bit Rt of Rs up to 31 and completes for every Rt. For every state and all registers,
tstbit(Rs,Rt) and !tstbit(Rs,Rt) answer a next state that differs by one predicate result for Pd. For Rt at most 31
it is TV of bit Rt of Rs (its negation, with !); above 31 it is TV of TstbitWide, and the two forms give opposite
truth values: where the launch leaves TstbitWide at the spec's default (its general knowledge, entry 21, PRESUMED),
it holds exactly when Rt[6:0] as a signed number k lies in 0 to 31 and bit k of Rs is 1; otherwise it is an unknown
function of the two registers. (R142, R143) -/
def Obligations.RegisterBitTestCompletes : Prop :=
  ∀ (pd : PReg) (rs rt : GReg) (s : State),
    ((s.reg rt).toNat ≤ 31 →
      Generates (.tstbitRr pd rs rt) s pd ((s.reg rs).getLsbD (s.reg rt).toNat = true) ∧
      Generates (.ntstbitRr pd rs rt) s pd ((s.reg rs).getLsbD (s.reg rt).toNat = false)) ∧
    (31 < (s.reg rt).toNat →
      ∃ b : Bool, Generates (.tstbitRr pd rs rt) s pd (b = true) ∧ Generates (.ntstbitRr pd rs rt) s pd (b = false) ∧
        (s.launch.tstbitWide = .default → (b = true ↔
          0 ≤ ((s.reg rt).extractLsb' 0 7).toInt ∧ ((s.reg rt).extractLsb' 0 7).toInt ≤ 31 ∧
            (s.reg rs).getLsbD ((s.reg rt).extractLsb' 0 7).toInt.toNat = true)) ∧
        (s.launch.tstbitWide = .other → b = Config.tstbitWideOther (s.reg rs) (s.reg rt)))

/-- boundscheck and tlbmatch complete with TV of their test. For every state and all operands, boundscheck(Rs,Rtt)
answers a next state that differs by one predicate result for Pd: TV of BoundsCheck, which is the spec's default
(even register at most Rs, Rs below the odd register, unsigned) or an unknown function (entry 20); tlbmatch(Rss,Rt)
likewise with the uninterpreted TlbMatch (entry 22). (R154, R155) -/
def Obligations.RangeAndTlbMatchComplete : Prop :=
  ∀ (pd : PReg) (rs rt : GReg) (rss rtt : PairReg) (s : State),
    (s.launch.bounds = .default →
      Generates (.boundscheck pd rs rtt) s pd
        ((s.reg (evenReg rtt)).toNat ≤ (s.reg rs).toNat ∧ (s.reg rs).toNat < (s.reg (oddReg rtt)).toNat)) ∧
    (s.launch.bounds = .other →
      Generates (.boundscheck pd rs rtt) s pd (Config.boundsCheckOther (s.reg rs) (s.pair rtt) = true)) ∧
    Generates (.tlbmatch pd rss rt) s pd (Config.tlbMatch (s.pair rss) (s.reg rt) = true)

/-- A store conditional completes: stored and 0xFF, or not stored and 0x00; the reservation is cleared. For every state
whose access of 4 (8) bytes at Rs is aligned and permitted, memw_locked (memd_locked) answers a next state. If the
reservation is not that address and size, nothing is stored and the result is 0x00. If it is, the draw ScOutcome for
the tick and Pd decides (entry 9, DEDUCED): where it is true the low bytes of the operand are recorded as a store
and the result is 0xFF, where it is false nothing is stored and the result is 0x00. In every case the reservation is
recorded as cleared and nothing else changes. (R40, R152, R153) -/
def Obligations.StoreConditionalOutcomes : Prop :=
  ∀ (rs rt : GReg) (rtt : PairReg) (pd : PReg) (s : State),
    (AccessOk s (s.reg rs) 4 .write →
      (s.resv ≠ some { addr := s.reg rs, size := .word } →
        exec (.memwLockedSt rs pd rt) s = .next (s.recordClearResv.recordPred pd 0x00#8)) ∧
      (s.resv = some { addr := s.reg rs, size := .word } →
        exec (.memwLockedSt rs pd rt) s = .next (if Config.scOutcome s.tick pd.val = true
          then ((s.recordStore (s.reg rs) (littleBytes (s.reg rt) 4)).recordClearResv).recordPred pd 0xFF#8
          else s.recordClearResv.recordPred pd 0x00#8))) ∧
    (AccessOk s (s.reg rs) 8 .write →
      (s.resv ≠ some { addr := s.reg rs, size := .dword } →
        exec (.memdLockedSt rs pd rtt) s = .next (s.recordClearResv.recordPred pd 0x00#8)) ∧
      (s.resv = some { addr := s.reg rs, size := .dword } →
        exec (.memdLockedSt rs pd rtt) s = .next (if Config.scOutcome s.tick pd.val = true
          then ((s.recordStore (s.reg rs) (littleBytes (s.pair rtt) 8)).recordClearResv).recordPred pd 0xFF#8
          else s.recordClearResv.recordPred pd 0x00#8)))

/-- Rd = cmp.eq gives 0 or 1; mux selects by bit 0 of Ps. For every state and all operands, Rd = cmp.eq(Rs,Rt) answers a
next state that differs by one write to Rd, 1 if the registers are equal and 0 if not; Rd = mux(Ps,Rs,Rt) one that
differs by one write to Rd, Rs if bit 0 of the old Ps is 1 and Rt otherwise. (R156, R232) -/
def Obligations.CompareToRegisterAndMuxResults : Prop :=
  ∀ (rd rs rt : GReg) (ps : PReg) (s : State),
    (s.reg rs = s.reg rt → exec (.cmpEqToR rd rs rt) s = .next (s.recordReg rd 1#32)) ∧
    (s.reg rs ≠ s.reg rt → exec (.cmpEqToR rd rs rt) s = .next (s.recordReg rd 0#32)) ∧
    ((s.pred ps).getLsbD 0 = true → exec (.muxRr rd ps rs rt) s = .next (s.recordReg rd (s.reg rs))) ∧
    ((s.pred ps).getLsbD 0 = false → exec (.muxRr rd ps rs rt) s = .next (s.recordReg rd (s.reg rt)))

/-- Transfers between predicate registers, general registers and the quadruple. For every state and all operands: Pd =
Ps records all eight bits of the old Ps for Pd; Pd = Rs the low byte of Rs; Rd = Ps writes the zero-extended old Ps;
Rd = P3:0 the four old predicates, P0 lowest; P3:0 = Rs and C5:4 = Rss record one byte of Rs, or of the low word of
the pair, for each predicate register; nothing else changes. The bits moved and the layout are the spec's decision
D19 (entries 24, 25). (R500, R501, R502, R520, R521, R522) -/
def Obligations.PredicateTransfersComplete : Prop :=
  ∀ (pd ps : PReg) (rd rs : GReg) (rss : PairReg) (s : State),
    exec (.tfrPp pd ps) s = .next (s.recordPred pd (s.pred ps)) ∧
    exec (.tfrPr pd rs) s = .next (s.recordPred pd (BitVec.ofNat 8 ((s.reg rs).toNat % 2 ^ 8))) ∧
    exec (.tfrRp rd ps) s = .next (s.recordReg rd (BitVec.ofNat 32 (s.pred ps).toNat)) ∧
    exec (.tfrRp4 rd) s = .next (s.recordReg rd (s.pred 3 ++ s.pred 2 ++ s.pred 1 ++ s.pred 0)) ∧
    exec (.tfrP4r rs) s =
      .next ((((s.recordPred 0 ((s.reg rs).extractLsb' 0 8)).recordPred 1 ((s.reg rs).extractLsb' 8 8)).recordPred 2
        ((s.reg rs).extractLsb' 16 8)).recordPred 3 ((s.reg rs).extractLsb' 24 8)) ∧
    exec (.tfrC54 rss) s =
      .next ((((s.recordPred 0 ((s.reg (evenReg rss)).extractLsb' 0 8)).recordPred 1
        ((s.reg (evenReg rss)).extractLsb' 8 8)).recordPred 2 ((s.reg (evenReg rss)).extractLsb' 16 8)).recordPred 3
        ((s.reg (evenReg rss)).extractLsb' 24 8))

/-- The two- and three-input predicate logic instructions compute bit by bit. For every state and all predicate
registers, each of the twelve and/or instructions of two and three inputs answers a next state that differs by one
predicate result v for Pd only, and each of the eight bits of v is the stated Boolean combination of that bit of the
old source predicates. (R503, R504, R505, R506, R507, R508, R509, R510, R511, R512, R513, R514) -/
def Obligations.PredicateLogicIsBitwise : Prop :=
  ∀ (pd ps pt pu : PReg) (s : State),
    (∃ v, exec (.andPp pd ps pt) s = .next (s.recordPred pd v) ∧
      ∀ k < 8, v.getLsbD k = ((s.pred ps).getLsbD k && (s.pred pt).getLsbD k)) ∧
    (∃ v, exec (.andPpn pd ps pt) s = .next (s.recordPred pd v) ∧
      ∀ k < 8, v.getLsbD k = ((s.pred ps).getLsbD k && !(s.pred pt).getLsbD k)) ∧
    (∃ v, exec (.orPp pd ps pt) s = .next (s.recordPred pd v) ∧
      ∀ k < 8, v.getLsbD k = ((s.pred ps).getLsbD k || (s.pred pt).getLsbD k)) ∧
    (∃ v, exec (.orPpn pd ps pt) s = .next (s.recordPred pd v) ∧
      ∀ k < 8, v.getLsbD k = ((s.pred ps).getLsbD k || !(s.pred pt).getLsbD k)) ∧
    (∃ v, exec (.andAndPpp pd ps pt pu) s = .next (s.recordPred pd v) ∧
      ∀ k < 8, v.getLsbD k = ((s.pred ps).getLsbD k && ((s.pred pt).getLsbD k && (s.pred pu).getLsbD k))) ∧
    (∃ v, exec (.andAndPppn pd ps pt pu) s = .next (s.recordPred pd v) ∧
      ∀ k < 8, v.getLsbD k = ((s.pred ps).getLsbD k && ((s.pred pt).getLsbD k && !(s.pred pu).getLsbD k))) ∧
    (∃ v, exec (.andOrPpp pd ps pt pu) s = .next (s.recordPred pd v) ∧
      ∀ k < 8, v.getLsbD k = ((s.pred ps).getLsbD k && ((s.pred pt).getLsbD k || (s.pred pu).getLsbD k))) ∧
    (∃ v, exec (.andOrPppn pd ps pt pu) s = .next (s.recordPred pd v) ∧
      ∀ k < 8, v.getLsbD k = ((s.pred ps).getLsbD k && ((s.pred pt).getLsbD k || !(s.pred pu).getLsbD k))) ∧
    (∃ v, exec (.orAndPpp pd ps pt pu) s = .next (s.recordPred pd v) ∧
      ∀ k < 8, v.getLsbD k = ((s.pred ps).getLsbD k || ((s.pred pt).getLsbD k && (s.pred pu).getLsbD k))) ∧
    (∃ v, exec (.orAndPppn pd ps pt pu) s = .next (s.recordPred pd v) ∧
      ∀ k < 8, v.getLsbD k = ((s.pred ps).getLsbD k || ((s.pred pt).getLsbD k && !(s.pred pu).getLsbD k))) ∧
    (∃ v, exec (.orOrPpp pd ps pt pu) s = .next (s.recordPred pd v) ∧
      ∀ k < 8, v.getLsbD k = ((s.pred ps).getLsbD k || ((s.pred pt).getLsbD k || (s.pred pu).getLsbD k))) ∧
    (∃ v, exec (.orOrPppn pd ps pt pu) s = .next (s.recordPred pd v) ∧
      ∀ k < 8, v.getLsbD k = ((s.pred ps).getLsbD k || ((s.pred pt).getLsbD k || !(s.pred pu).getLsbD k)))

/-- not, xor, any8 and all8. For every state and all predicate registers: not(Ps) and xor(Ps,Pt) answer a next state
that differs by one predicate result for Pd computed bit by bit; any8(Ps) gives 0xFF if some bit of Ps is 1 and 0x00
otherwise; all8(Ps) gives 0x00 if some bit of Ps is 0 and 0xFF otherwise; all8(x) is not(any8(not(x))). (R515, R516,
R517, R518) -/
def Obligations.InversionAndReductionResults : Prop :=
  ∀ (pd ps pt : PReg) (s : State),
    (∃ v, exec (.notP pd ps) s = .next (s.recordPred pd v) ∧
      ∀ k < 8, v.getLsbD k = !(s.pred ps).getLsbD k) ∧
    (∃ v, exec (.xorPp pd ps pt) s = .next (s.recordPred pd v) ∧
      ∀ k < 8, v.getLsbD k = ((s.pred ps).getLsbD k ^^ (s.pred pt).getLsbD k)) ∧
    Generates (.any8 pd ps) s pd (∃ k < 8, (s.pred ps).getLsbD k = true) ∧
    Generates (.all8 pd ps) s pd (∀ k < 8, (s.pred ps).getLsbD k = true)

/-- jump and jumpr, unguarded and guarded, record their target. For every state: jump to a label that the program
defines answers a next state that differs by the recorded pc target only, the address of the label; jumpr Rs one
with the target Rs; the guarded forms do so exactly when their guard is true and otherwise change nothing (a .new
guard reading the newly generated value). jumpr is general knowledge of the spec (entry 26). (R210, R212, R200,
R201) -/
def Obligations.JumpsComplete : Prop :=
  ∀ (pu : PReg) (rs : GReg) (lbl : Label) (s : State),
    (∀ a, s.launch.labelAddr lbl = some a →
      exec (.jump lbl) s = .next (s.recordTarget a) ∧
      GuardedTo s pu (s.recordTarget a)
      (exec (.jumpIfT pu lbl) s) (exec (.jumpIfF pu lbl) s) (exec (.jumpIfTnew pu lbl) s) (exec (.jumpIfFnew pu lbl) s)) ∧
    exec (.jumpr rs) s = .next (s.recordTarget (s.reg rs)) ∧
    GuardedTo s pu (s.recordTarget (s.reg rs))
      (exec (.jumprIfT pu rs) s) (exec (.jumprIfF pu rs) s) (exec (.jumprIfTnew pu rs) s) (exec (.jumprIfFnew pu rs) s)

/-- call and callr, unguarded and guarded, write R31 and record their target. For every state: call of a label that the
program defines, and callr Rs, answer a next state that differs by a write of the address after the packet (pc plus
4 times the number of its instructions) to R31 and by the recorded pc target; the guarded forms do so exactly when
their guard is true and otherwise change nothing. Both are general knowledge of the spec (entry 26). (R211, R212,
R200, R201) -/
def Obligations.CallsComplete : Prop :=
  ∀ (pu : PReg) (rs : GReg) (lbl : Label) (s : State),
    (∀ a, s.launch.labelAddr lbl = some a →
      exec (.call lbl) s = .next ((s.recordReg 31 (s.pc + BitVec.ofNat 32 (4 * s.pkt.size))).recordTarget a) ∧
      GuardedTo s pu ((s.recordReg 31 (s.pc + BitVec.ofNat 32 (4 * s.pkt.size))).recordTarget a)
      (exec (.callIfT pu lbl) s) (exec (.callIfF pu lbl) s) (exec (.callIfTnew pu lbl) s) (exec (.callIfFnew pu lbl) s)) ∧
    exec (.callr rs) s = .next ((s.recordReg 31 (s.pc + BitVec.ofNat 32 (4 * s.pkt.size))).recordTarget (s.reg rs)) ∧
    GuardedTo s pu ((s.recordReg 31 (s.pc + BitVec.ofNat 32 (4 * s.pkt.size))).recordTarget (s.reg rs))
      (exec (.callrIfT pu rs) s) (exec (.callrIfF pu rs) s) (exec (.callrIfTnew pu rs) s) (exec (.callrIfFnew pu rs) s)

/-- dealloc_return, unguarded and guarded: a load, three register writes and a jump. For every state whose 8-byte read
at R30 is aligned and permitted, dealloc_return answers a next state that differs by the recorded load, the writes
of its low word to R30, its high word to R31 and R30 plus 8 to R29, and the pc target, its high word; the guarded
forms do so exactly when their guard is true and otherwise change nothing. The rule is general knowledge of the spec
(entries 26, 30). (R231, R200, R201) -/
def Obligations.DeallocReturnCompletes : Prop :=
  ∀ (pu : PReg) (s : State), AccessOk s (s.reg 30) 8 .read →
    exec .deallocReturn s =
      .next (((((s.recordLoad (s.reg 30) 8).recordReg 30 ((s.load (s.reg 30) 8 64).extractLsb' 0 32)).recordReg 31
        ((s.load (s.reg 30) 8 64).extractLsb' 32 32)).recordReg 29 (s.reg 30 + 8#32)).recordTarget ((s.load (s.reg 30) 8 64).extractLsb' 32 32)) ∧
    GuardedTo s pu
      (((((s.recordLoad (s.reg 30) 8).recordReg 30 ((s.load (s.reg 30) 8 64).extractLsb' 0 32)).recordReg 31
        ((s.load (s.reg 30) 8 64).extractLsb' 32 32)).recordReg 29 (s.reg 30 + 8#32)).recordTarget ((s.load (s.reg 30) 8 64).extractLsb' 32 32))
      (exec (.deallocReturnIfT pu) s) (exec (.deallocReturnIfF pu) s) (exec (.deallocReturnIfTnew pu) s)
      (exec (.deallocReturnIfFnew pu) s)

/-- memw and memd loads, unguarded and guarded. For every state whose read of 4 (8) bytes at Rs is aligned and
permitted, Rd = memw(Rs) (Rdd = memd(Rs)) answers a next state that differs by the recorded load and the write of
the little-endian value to Rd (low word to the even, high word to the odd register of Rdd); the guarded forms do so
exactly when their guard is true and otherwise change nothing. (R213, R214, R200, R201) -/
def Obligations.WordAndDoublewordLoadsComplete : Prop :=
  ∀ (pu : PReg) (rd rs : GReg) (rdd : PairReg) (s : State),
    (AccessOk s (s.reg rs) 4 .read →
      exec (.memwLd rd rs) s = .next ((s.recordLoad (s.reg rs) 4).recordReg rd (s.load (s.reg rs) 4 32)) ∧
      GuardedTo s pu ((s.recordLoad (s.reg rs) 4).recordReg rd (s.load (s.reg rs) 4 32))
      (exec (.memwLdIfT pu rd rs) s) (exec (.memwLdIfF pu rd rs) s) (exec (.memwLdIfTnew pu rd rs) s) (exec (.memwLdIfFnew pu rd rs) s)) ∧
    (AccessOk s (s.reg rs) 8 .read →
      exec (.memdLd rdd rs) s = .next (((s.recordLoad (s.reg rs) 8).recordReg (evenReg rdd) ((s.load (s.reg rs) 8 64).extractLsb' 0 32)).recordReg
        (oddReg rdd) ((s.load (s.reg rs) 8 64).extractLsb' 32 32)) ∧
      GuardedTo s pu (((s.recordLoad (s.reg rs) 8).recordReg (evenReg rdd) ((s.load (s.reg rs) 8 64).extractLsb' 0 32)).recordReg
        (oddReg rdd) ((s.load (s.reg rs) 8 64).extractLsb' 32 32))
      (exec (.memdLdIfT pu rdd rs) s) (exec (.memdLdIfF pu rdd rs) s) (exec (.memdLdIfTnew pu rdd rs) s) (exec (.memdLdIfFnew pu rdd rs) s))

/-- memb, memub, memh and memuh loads, unguarded and guarded. For every state whose read of 1 (2) bytes at Rs is aligned
and permitted, the byte (halfword) loads answer a next state that differs by the recorded load and the write of the
value to Rd, sign-extended for memb and memh and zero-extended for memub and memuh; the guarded forms do so exactly
when their guard is true and otherwise change nothing. The rule is general knowledge of the spec (entry 26). (R215,
R200, R201) -/
def Obligations.ByteAndHalfwordLoadsComplete : Prop :=
  ∀ (pu : PReg) (rd rs : GReg) (s : State),
    (AccessOk s (s.reg rs) 1 .read →
      exec (.membLd rd rs) s = .next ((s.recordLoad (s.reg rs) 1).recordReg rd (BitVec.ofInt 32 (s.load (s.reg rs) 1 8).toInt)) ∧
      GuardedTo s pu ((s.recordLoad (s.reg rs) 1).recordReg rd (BitVec.ofInt 32 (s.load (s.reg rs) 1 8).toInt))
      (exec (.membLdIfT pu rd rs) s) (exec (.membLdIfF pu rd rs) s) (exec (.membLdIfTnew pu rd rs) s) (exec (.membLdIfFnew pu rd rs) s)) ∧
    (AccessOk s (s.reg rs) 1 .read →
      exec (.memubLd rd rs) s = .next ((s.recordLoad (s.reg rs) 1).recordReg rd (BitVec.ofNat 32 (s.load (s.reg rs) 1 8).toNat)) ∧
      GuardedTo s pu ((s.recordLoad (s.reg rs) 1).recordReg rd (BitVec.ofNat 32 (s.load (s.reg rs) 1 8).toNat))
      (exec (.memubLdIfT pu rd rs) s) (exec (.memubLdIfF pu rd rs) s) (exec (.memubLdIfTnew pu rd rs) s) (exec (.memubLdIfFnew pu rd rs) s)) ∧
    (AccessOk s (s.reg rs) 2 .read →
      exec (.memhLd rd rs) s = .next ((s.recordLoad (s.reg rs) 2).recordReg rd (BitVec.ofInt 32 (s.load (s.reg rs) 2 16).toInt)) ∧
      GuardedTo s pu ((s.recordLoad (s.reg rs) 2).recordReg rd (BitVec.ofInt 32 (s.load (s.reg rs) 2 16).toInt))
      (exec (.memhLdIfT pu rd rs) s) (exec (.memhLdIfF pu rd rs) s) (exec (.memhLdIfTnew pu rd rs) s) (exec (.memhLdIfFnew pu rd rs) s)) ∧
    (AccessOk s (s.reg rs) 2 .read →
      exec (.memuhLd rd rs) s = .next ((s.recordLoad (s.reg rs) 2).recordReg rd (BitVec.ofNat 32 (s.load (s.reg rs) 2 16).toNat)) ∧
      GuardedTo s pu ((s.recordLoad (s.reg rs) 2).recordReg rd (BitVec.ofNat 32 (s.load (s.reg rs) 2 16).toNat))
      (exec (.memuhLdIfT pu rd rs) s) (exec (.memuhLdIfF pu rd rs) s) (exec (.memuhLdIfTnew pu rd rs) s) (exec (.memuhLdIfFnew pu rd rs) s))

/-- memw, memd, memb and memh stores, unguarded and guarded. For every state whose write of 4, 8, 1 or 2 bytes at Rs is
aligned and permitted, the store answers a next state that differs by one recorded store only: at address Rs, the
low bytes of the operand, least significant first; no register is written. The guarded forms do so exactly when
their guard is true and otherwise change nothing. The byte and halfword stores are general knowledge of the spec
(entry 26). (R216, R217, R218, R200, R201, R32) -/
def Obligations.StoresComplete : Prop :=
  ∀ (pu : PReg) (rs rt : GReg) (rtt : PairReg) (s : State),
    (AccessOk s (s.reg rs) 4 .write →
      exec (.memwSt rs rt) s = .next (s.recordStore (s.reg rs)
        [(s.reg rt).extractLsb' 0 8, (s.reg rt).extractLsb' 8 8, (s.reg rt).extractLsb' 16 8, (s.reg rt).extractLsb' 24 8]) ∧
      GuardedTo s pu (s.recordStore (s.reg rs)
        [(s.reg rt).extractLsb' 0 8, (s.reg rt).extractLsb' 8 8, (s.reg rt).extractLsb' 16 8, (s.reg rt).extractLsb' 24 8])
      (exec (.memwStIfT pu rs rt) s) (exec (.memwStIfF pu rs rt) s) (exec (.memwStIfTnew pu rs rt) s) (exec (.memwStIfFnew pu rs rt) s)) ∧
    (AccessOk s (s.reg rs) 8 .write →
      exec (.memdSt rs rtt) s = .next (s.recordStore (s.reg rs)
        [(s.reg (evenReg rtt)).extractLsb' 0 8, (s.reg (evenReg rtt)).extractLsb' 8 8, (s.reg (evenReg rtt)).extractLsb' 16 8, (s.reg (evenReg rtt)).extractLsb' 24 8,
          (s.reg (oddReg rtt)).extractLsb' 0 8, (s.reg (oddReg rtt)).extractLsb' 8 8, (s.reg (oddReg rtt)).extractLsb' 16 8, (s.reg (oddReg rtt)).extractLsb' 24 8]) ∧
      GuardedTo s pu (s.recordStore (s.reg rs)
        [(s.reg (evenReg rtt)).extractLsb' 0 8, (s.reg (evenReg rtt)).extractLsb' 8 8, (s.reg (evenReg rtt)).extractLsb' 16 8, (s.reg (evenReg rtt)).extractLsb' 24 8,
          (s.reg (oddReg rtt)).extractLsb' 0 8, (s.reg (oddReg rtt)).extractLsb' 8 8, (s.reg (oddReg rtt)).extractLsb' 16 8, (s.reg (oddReg rtt)).extractLsb' 24 8])
      (exec (.memdStIfT pu rs rtt) s) (exec (.memdStIfF pu rs rtt) s) (exec (.memdStIfTnew pu rs rtt) s) (exec (.memdStIfFnew pu rs rtt) s)) ∧
    (AccessOk s (s.reg rs) 1 .write →
      exec (.membSt rs rt) s = .next (s.recordStore (s.reg rs) [(s.reg rt).extractLsb' 0 8]) ∧
      GuardedTo s pu (s.recordStore (s.reg rs) [(s.reg rt).extractLsb' 0 8])
      (exec (.membStIfT pu rs rt) s) (exec (.membStIfF pu rs rt) s) (exec (.membStIfTnew pu rs rt) s) (exec (.membStIfFnew pu rs rt) s)) ∧
    (AccessOk s (s.reg rs) 2 .write →
      exec (.memhSt rs rt) s = .next (s.recordStore (s.reg rs) [(s.reg rt).extractLsb' 0 8, (s.reg rt).extractLsb' 8 8]) ∧
      GuardedTo s pu (s.recordStore (s.reg rs) [(s.reg rt).extractLsb' 0 8, (s.reg rt).extractLsb' 8 8])
      (exec (.memhStIfT pu rs rt) s) (exec (.memhStIfF pu rs rt) s) (exec (.memhStIfTnew pu rs rt) s) (exec (.memhStIfFnew pu rs rt) s))

/-- add and sub, unguarded and guarded, wrap modulo 2^32. For every state and all operands, add(Rs,Rt), add(Rs,#imm) and
sub(Rt,Rs) answer a next state that differs by one write to Rd: the sum, or the first operand minus the second,
modulo 2^32; the guarded forms do so exactly when their guard is true and otherwise change nothing. The spellings,
the widths of the immediate and the operand order of sub are the spec's general knowledge (entry 24). (R219, R220,
R221, R200, R201) -/
def Obligations.AddAndSubtractComplete : Prop :=
  ∀ (pu : PReg) (rd rs rt : GReg) (n : Int) (s : State),
    exec (.addRr rd rs rt) s = .next (s.recordReg rd (BitVec.ofNat 32 ((s.reg rs).toNat + (s.reg rt).toNat))) ∧
    GuardedTo s pu (s.recordReg rd (BitVec.ofNat 32 ((s.reg rs).toNat + (s.reg rt).toNat)))
      (exec (.addRrIfT pu rd rs rt) s) (exec (.addRrIfF pu rd rs rt) s) (exec (.addRrIfTnew pu rd rs rt) s) (exec (.addRrIfFnew pu rd rs rt) s) ∧
    exec (.addRi rd rs n) s = .next (s.recordReg rd (BitVec.ofInt 32 ((s.reg rs).toInt + n))) ∧
    GuardedTo s pu (s.recordReg rd (BitVec.ofInt 32 ((s.reg rs).toInt + n)))
      (exec (.addRiIfT pu rd rs n) s) (exec (.addRiIfF pu rd rs n) s) (exec (.addRiIfTnew pu rd rs n) s) (exec (.addRiIfFnew pu rd rs n) s) ∧
    exec (.subRr rd rt rs) s = .next (s.recordReg rd (BitVec.ofInt 32 ((s.reg rt).toInt - (s.reg rs).toInt))) ∧
    GuardedTo s pu (s.recordReg rd (BitVec.ofInt 32 ((s.reg rt).toInt - (s.reg rs).toInt)))
      (exec (.subRrIfT pu rd rt rs) s) (exec (.subRrIfF pu rd rt rs) s) (exec (.subRrIfTnew pu rd rt rs) s) (exec (.subRrIfFnew pu rd rt rs) s)

/-- and, or and xor on general registers, unguarded and guarded. For every state and all operands, and(Rs,Rt), or(Rs,Rt)
and xor(Rs,Rt) answer a next state that differs by one write of the bitwise result to Rd; the guarded forms do so
exactly when their guard is true and otherwise change nothing. (R222, R223, R224, R200, R201) -/
def Obligations.LogicalRegistersComplete : Prop :=
  ∀ (pu : PReg) (rd rs rt : GReg) (s : State),
    exec (.andRr rd rs rt) s = .next (s.recordReg rd (s.reg rs &&& s.reg rt)) ∧
    GuardedTo s pu (s.recordReg rd (s.reg rs &&& s.reg rt))
      (exec (.andRrIfT pu rd rs rt) s) (exec (.andRrIfF pu rd rs rt) s) (exec (.andRrIfTnew pu rd rs rt) s) (exec (.andRrIfFnew pu rd rs rt) s) ∧
    exec (.orRr rd rs rt) s = .next (s.recordReg rd (s.reg rs ||| s.reg rt)) ∧
    GuardedTo s pu (s.recordReg rd (s.reg rs ||| s.reg rt))
      (exec (.orRrIfT pu rd rs rt) s) (exec (.orRrIfF pu rd rs rt) s) (exec (.orRrIfTnew pu rd rs rt) s) (exec (.orRrIfFnew pu rd rs rt) s) ∧
    exec (.xorRr rd rs rt) s = .next (s.recordReg rd (s.reg rs ^^^ s.reg rt)) ∧
    GuardedTo s pu (s.recordReg rd (s.reg rs ^^^ s.reg rt))
      (exec (.xorRrIfT pu rd rs rt) s) (exec (.xorRrIfF pu rd rs rt) s) (exec (.xorRrIfTnew pu rd rs rt) s) (exec (.xorRrIfFnew pu rd rs rt) s)

/-- aslh, asrh, sxtb, sxth, zxtb and zxth, unguarded and guarded. For every state and all operands, aslh writes Rs times
2^16, asrh the signed quotient of Rs by 2^16, sxtb and sxth the sign-extended and zxtb and zxth the zero-extended
low byte or halfword of Rs to Rd, and nothing else changes; the guarded forms do so exactly when their guard is true
and otherwise change nothing. The spellings and the operations of aslh and asrh are the spec's general knowledge,
taken over by the model (entry 24, PRESUMED). (R225, R226, R227, R228, R229, R230, R200, R201) -/
def Obligations.ShiftsAndExtensionsComplete : Prop :=
  ∀ (pu : PReg) (rd rs : GReg) (s : State),
    exec (.aslh rd rs) s = .next (s.recordReg rd (s.reg rs <<< 16)) ∧
    GuardedTo s pu (s.recordReg rd (s.reg rs <<< 16))
      (exec (.aslhIfT pu rd rs) s) (exec (.aslhIfF pu rd rs) s) (exec (.aslhIfTnew pu rd rs) s) (exec (.aslhIfFnew pu rd rs) s) ∧
    exec (.asrh rd rs) s = .next (s.recordReg rd ((s.reg rs).sshiftRight 16)) ∧
    GuardedTo s pu (s.recordReg rd ((s.reg rs).sshiftRight 16))
      (exec (.asrhIfT pu rd rs) s) (exec (.asrhIfF pu rd rs) s) (exec (.asrhIfTnew pu rd rs) s) (exec (.asrhIfFnew pu rd rs) s) ∧
    exec (.sxtb rd rs) s = .next (s.recordReg rd (BitVec.ofInt 32 ((s.reg rs).setWidth 8).toInt)) ∧
    GuardedTo s pu (s.recordReg rd (BitVec.ofInt 32 ((s.reg rs).setWidth 8).toInt))
      (exec (.sxtbIfT pu rd rs) s) (exec (.sxtbIfF pu rd rs) s) (exec (.sxtbIfTnew pu rd rs) s) (exec (.sxtbIfFnew pu rd rs) s) ∧
    exec (.sxth rd rs) s = .next (s.recordReg rd (BitVec.ofInt 32 ((s.reg rs).setWidth 16).toInt)) ∧
    GuardedTo s pu (s.recordReg rd (BitVec.ofInt 32 ((s.reg rs).setWidth 16).toInt))
      (exec (.sxthIfT pu rd rs) s) (exec (.sxthIfF pu rd rs) s) (exec (.sxthIfTnew pu rd rs) s) (exec (.sxthIfFnew pu rd rs) s) ∧
    exec (.zxtb rd rs) s = .next (s.recordReg rd (s.reg rs &&& 0xFF#32)) ∧
    GuardedTo s pu (s.recordReg rd (s.reg rs &&& 0xFF#32))
      (exec (.zxtbIfT pu rd rs) s) (exec (.zxtbIfF pu rd rs) s) (exec (.zxtbIfTnew pu rd rs) s) (exec (.zxtbIfFnew pu rd rs) s) ∧
    exec (.zxth rd rs) s = .next (s.recordReg rd (s.reg rs &&& 0xFFFF#32)) ∧
    GuardedTo s pu (s.recordReg rd (s.reg rs &&& 0xFFFF#32))
      (exec (.zxthIfT pu rd rs) s) (exec (.zxthIfF pu rd rs) s) (exec (.zxthIfTnew pu rd rs) s) (exec (.zxthIfFnew pu rd rs) s)

/-- Rd = Rs, Rd = #imm and combine, unguarded and guarded. For every state and all operands, Rd = Rs writes Rs to Rd, Rd
= #imm the sign-extended number to Rd, and Rdd = combine(Rs,Rt) writes Rt to the even and Rs to the odd register of
Rdd, and nothing else changes; the guarded forms do so exactly when their guard is true and otherwise change
nothing. The operand order of combine and the widths of the immediate are the spec's general knowledge (entry 24).
(R233, R234, R235, R200, R201) -/
def Obligations.TransfersAndCombineComplete : Prop :=
  ∀ (pu : PReg) (rd rs rt : GReg) (rdd : PairReg) (n : Int) (s : State),
    exec (.tfr rd rs) s = .next (s.recordReg rd (s.reg rs)) ∧
    GuardedTo s pu (s.recordReg rd (s.reg rs))
      (exec (.tfrIfT pu rd rs) s) (exec (.tfrIfF pu rd rs) s) (exec (.tfrIfTnew pu rd rs) s) (exec (.tfrIfFnew pu rd rs) s) ∧
    exec (.tfri rd n) s = .next (s.recordReg rd (BitVec.ofInt 32 n)) ∧
    GuardedTo s pu (s.recordReg rd (BitVec.ofInt 32 n))
      (exec (.tfriIfT pu rd n) s) (exec (.tfriIfF pu rd n) s) (exec (.tfriIfTnew pu rd n) s) (exec (.tfriIfFnew pu rd n) s) ∧
    exec (.combine rdd rs rt) s = .next ((s.recordReg (evenReg rdd) (s.reg rt)).recordReg (oddReg rdd) (s.reg rs)) ∧
    GuardedTo s pu ((s.recordReg (evenReg rdd) (s.reg rt)).recordReg (oddReg rdd) (s.reg rs))
      (exec (.combineIfT pu rdd rs rt) s) (exec (.combineIfF pu rdd rs rt) s) (exec (.combineIfTnew pu rdd rs rt) s) (exec (.combineIfFnew pu rdd rs rt) s)

/-- The vector compares set the bits of each lane by the compare of that lane. For every state and all pairs, each
vector compare answers a next state that differs by one predicate result v for Pd: bit k of v is 1 exactly when the
relation (equal, signed greater, unsigned greater) holds of the lane that byte k belongs to, so one bit for a byte,
two for a halfword and four for a word. The .gt and .gtu forms are general knowledge of the spec (entry 26). (R401,
R402, R403, R404) -/
def Obligations.VectorComparesSetLaneBits : Prop :=
  ∀ (pd : PReg) (rss rtt : PairReg) (s : State),
    (∃ v, exec (.vcmpbEq pd rss rtt) s = .next (s.recordPred pd v) ∧ ∀ k < 8, (v.getLsbD k = true ↔
      ((s.pair rss).extractLsb' (8 * (k / 1)) 8) = ((s.pair rtt).extractLsb' (8 * (k / 1)) 8))) ∧
    (∃ v, exec (.vcmpbGt pd rss rtt) s = .next (s.recordPred pd v) ∧ ∀ k < 8, (v.getLsbD k = true ↔
      ((s.pair rtt).extractLsb' (8 * (k / 1)) 8).toInt < ((s.pair rss).extractLsb' (8 * (k / 1)) 8).toInt)) ∧
    (∃ v, exec (.vcmpbGtu pd rss rtt) s = .next (s.recordPred pd v) ∧ ∀ k < 8, (v.getLsbD k = true ↔
      ((s.pair rtt).extractLsb' (8 * (k / 1)) 8).toNat < ((s.pair rss).extractLsb' (8 * (k / 1)) 8).toNat)) ∧
    (∃ v, exec (.vcmphEq pd rss rtt) s = .next (s.recordPred pd v) ∧ ∀ k < 8, (v.getLsbD k = true ↔
      ((s.pair rss).extractLsb' (16 * (k / 2)) 16) = ((s.pair rtt).extractLsb' (16 * (k / 2)) 16))) ∧
    (∃ v, exec (.vcmphGt pd rss rtt) s = .next (s.recordPred pd v) ∧ ∀ k < 8, (v.getLsbD k = true ↔
      ((s.pair rtt).extractLsb' (16 * (k / 2)) 16).toInt < ((s.pair rss).extractLsb' (16 * (k / 2)) 16).toInt)) ∧
    (∃ v, exec (.vcmphGtu pd rss rtt) s = .next (s.recordPred pd v) ∧ ∀ k < 8, (v.getLsbD k = true ↔
      ((s.pair rtt).extractLsb' (16 * (k / 2)) 16).toNat < ((s.pair rss).extractLsb' (16 * (k / 2)) 16).toNat)) ∧
    (∃ v, exec (.vcmpwEq pd rss rtt) s = .next (s.recordPred pd v) ∧ ∀ k < 8, (v.getLsbD k = true ↔
      ((s.pair rss).extractLsb' (32 * (k / 4)) 32) = ((s.pair rtt).extractLsb' (32 * (k / 4)) 32))) ∧
    (∃ v, exec (.vcmpwGt pd rss rtt) s = .next (s.recordPred pd v) ∧ ∀ k < 8, (v.getLsbD k = true ↔
      ((s.pair rtt).extractLsb' (32 * (k / 4)) 32).toInt < ((s.pair rss).extractLsb' (32 * (k / 4)) 32).toInt)) ∧
    (∃ v, exec (.vcmpwGtu pd rss rtt) s = .next (s.recordPred pd v) ∧ ∀ k < 8, (v.getLsbD k = true ↔
      ((s.pair rtt).extractLsb' (32 * (k / 4)) 32).toNat < ((s.pair rss).extractLsb' (32 * (k / 4)) 32).toNat))

/-- vmux takes each byte from Rss or Rtt by the bit of Ps. For every state and all operands, Rdd = vmux(Ps,Rss,Rtt)
answers a next state that differs by the writes of the two words of one value to the even and the odd register of
Rdd: byte i of that value is byte i of Rss if bit i of the old Ps is 1, and byte i of Rtt otherwise. (R405) -/
def Obligations.VectorMuxSelectsBytes : Prop :=
  ∀ (rdd : PairReg) (ps : PReg) (rss rtt : PairReg) (s : State), ∃ v : DWord,
    exec (.vmux rdd ps rss rtt) s =
      .next ((s.recordReg (evenReg rdd) (v.extractLsb' 0 32)).recordReg (oddReg rdd) (v.extractLsb' 32 32)) ∧
    ∀ i < 8, v.extractLsb' (8 * i) 8 =
      if (s.pred ps).getLsbD i then (s.pair rss).extractLsb' (8 * i) 8 else (s.pair rtt).extractLsb' (8 * i) 8

/-- A halfword or word compare feeds vmux so that whole halfwords or words move. For every state, the result v of
vcmph.eq (vcmpw.eq) of two pairs, given to vmux in any state that holds v in Ps, selects whole halfwords (words):
lane i of what vmux writes is lane i of its first vector operand if lane i of the compared pairs is equal, and lane
i of its second operand otherwise. (R406, R402, R403) -/
def Obligations.HalfwordComparesSelectHalfwords : Prop :=
  ∀ (pd ps : PReg) (ra rb rdd rss rtt : PairReg) (s u : State),
    (∃ v, exec (.vcmphEq pd ra rb) s = .next (s.recordPred pd v) ∧
      (u.pred ps = v → ∃ w, exec (.vmux rdd ps rss rtt) u = .next (u.recordPair rdd w) ∧
        ∀ i < 4, halfLane w i =
          if halfLane (s.pair ra) i = halfLane (s.pair rb) i then halfLane (u.pair rss) i
          else halfLane (u.pair rtt) i)) ∧
    (∃ v, exec (.vcmpwEq pd ra rb) s = .next (s.recordPred pd v) ∧
      (u.pred ps = v → ∃ w, exec (.vmux rdd ps rss rtt) u = .next (u.recordPair rdd w) ∧
        ∀ i < 2, wordLane w i =
          if wordLane (s.pair ra) i = wordLane (s.pair rb) i then wordLane (u.pair rss) i
          else wordLane (u.pair rtt) i))

/-- A step at a packet of one line runs the instruction that the line decodes to. If the run has not ended, the packet
at the pc is one line that decodes to a well-formed instruction i, and the static checks pass, then: if exec i, from
the state at packet start with the newly generated predicates, answers next t, with no register recorded twice, no
overlap and a next pc, the step commits t's effects; and if exec i faults, the step gives that fault. (R300, R301,
R303, R304, R603) -/
def Obligations.StepRunsDecodedInstruction : Prop :=
  ∀ (s : State) (p : PacketText) (line : Text) (i : Instr),
    s.launch.haltPc ≠ some s.pc → s.launch.packetAt s.pc = some p → p.lines = [line] → decode line = .ok i →
    i.wellFormed = true → s.launch.refusal [i] = none →
    (∀ t pc, exec i (s.generated [i]) = .next t → duplicate t.pkt.effects.regs = none →
      t.pkt.effects.overlapping = false → s.nextPc 1 t.pkt.effects = some pc →
      step s = .next (s.commit (s.generated [i]).pkt.newP t.pkt.effects pc)) ∧
    (∀ f, exec i (s.generated [i]) = .fault f → step s = .fault f)

/-- A few lines written out from the syntax decode to their instructions. Five lines, written byte by byte from the
grammar (a compare with a negative immediate, a compound predicate operation, a guarded load, a hinted .new jump
with a comment, a pair store without blanks), decode to the instructions they stand for, and Rdd = C5:4, which has
no rule, is refused. (R52, R54, R57, R58, R523) -/
def Obligations.DecodingSamplesAreRight : Prop :=
  decode (Lexer.ascii "P0 = cmp.eq(R2,#-4)") = .ok (.cmpEqRi 0 2 (-4)) ∧
  decode (Lexer.ascii "P1 = and(P0,or(P2,!P3))") = .ok (.andOrPppn 1 0 2 3) ∧
  decode (Lexer.ascii "if (!P2) R31 = memw(R29)") = .ok (.memwLdIfF 2 31 29) ∧
  decode (Lexer.ascii "if (P0.new) jump:T taken_path // If A && B, jump") =
    .ok (.jumpIfTnew 0 (Lexer.ascii "taken_path")) ∧
  decode (Lexer.ascii "memd(R9)=R3:2") = .ok (.memdSt 9 1) ∧
  decode (Lexer.ascii "R1:0 = C5:4") = .error .noSuchInstruction

/-- decode (encode i) = i for every well-formed instruction. For every one of the 239 instructions, with every register,
every immediate in its range and every usable label: the text that encode writes for it decodes to it. (R52, R53,
R54, R58, R60) -/
def Obligations.DecodeReadsWhatEncodeWrites : Prop :=
  ∀ i : Instr, i.wellFormed = true → decode (encode i) = .ok i

/-- jump:T, jump:NT and jump decode to the same instruction. For every predicate register and every usable label, a
.new-guarded jump written with the hint :T, with the hint :NT, or with none, decodes to the same instruction, for
both senses of the guard. (R57, R210) -/
def Obligations.HintsDoNotMatter : Prop :=
  ∀ (u : PReg) (l : Label), Lexer.isLabel l = true →
    ∀ k ∈ [Lexer.Kw.jump, Lexer.Kw.jumpT, Lexer.Kw.jumpNT],
      decode (Lexer.spell [.kw .ifWord, .lpar, .newPred u, .rpar, .kw k, .label l]) = .ok (.jumpIfTnew u l) ∧
      decode (Lexer.spell [.kw .ifWord, .lpar, .bang, .newPred u, .rpar, .kw k, .label l]) = .ok (.jumpIfFnew u l)

/-- Every step keeps the memory canonical and leaves no packet-local value. From every state whose memory is in
canonical form and that holds no packet-local value, whatever instructions its packet holds, a step that answers a
next state leads to such a state again. (R21, R30, R33, R300) -/
def Obligations.EveryStepKeepsTheInvariant : Prop :=
  ∀ s t : State, Inv s → step s = .next t → Inv t

/-- The state after reset has the invariant, no reservation and empty memory. The state after reset satisfies the
invariant of EveryStepKeepsTheInvariant, holds no reservation and no written byte. That no byte is written is the
model's choice (entry 7, DESIGN CHOICE): R23 and R700 give memory the contents of the launch parameter Mem0, and the
model's reset is that of a launch whose Mem0 is empty. (R23, R700) -/
def Obligations.ResetHasTheInvariant : Prop :=
  Inv State.reset ∧ State.reset.resv = none ∧ ∀ a, State.reset.mem.find a = none

/-- With the general-knowledge jumps not admitted, every step keeps the pc a multiple of 4. From every state whose pc
and program addresses are multiples of INSN_BYTES and whose AdmitGK switch is off, a step that answers a next state
leads to such a state again. (R19, R33) -/
def Obligations.PcStaysAligned : Prop :=
  ∀ s t : State, PcAligned s → step s = .next t → PcAligned t

/-- A packet and any permutation of its lines lead to the same next state. For every state with canonical memory, every
packet that passes the static checks and every permutation of it: the permuted packet passes them too, and if
running the one answers next t, running the other answers next t. (R302, R300, R305) -/
def Obligations.LineOrderHasNoMeaning : Prop :=
  ∀ (s : State) (is js : List Instr), is.Perm js → s.mem.wf = true → s.launch.refusal is = none →
    s.launch.refusal js = none ∧ ∀ t, s.runPacket is = .next t → s.runPacket js = .next t

/-- A step leaves every general register that no instruction of the packet names as destination. For every state at an
admitted packet and every general register that is no destination of any of its instructions (a pair counting as
both registers, a call writing R31, dealloc_return writing R29 to R31): if the step answers a next state, the
register has its old value in it; and the launch (program and parameters) is the same. (R22, R300, R320) -/
def Obligations.OtherRegistersKeepTheirValue : Prop :=
  ∀ (s t : State) (is : List Instr) (r : GReg), AtPacket s is → step s = .next t →
    (∀ i ∈ is, r ∉ i.role.regs) → t.reg r = s.reg r ∧ t.launch = s.launch

/-- After a step a predicate register holds the bitwise AND of all results for it, or its old value. For every state at
an admitted packet whose step answers next t, and every predicate register Pd: if no instruction computes a result
for Pd, Pd has its old value in t; otherwise each bit of Pd in t is 1 exactly when it is 1 in every result for Pd
that the packet's instructions compute. The old value of Pd takes no part. That a register without a writer keeps
its value is R303; that the old value takes no part is marked derived in R305; that results of vector compares
(D34), of predicate logical instructions (D28) and of sfclass, dfclass and boundscheck (D39) are ANDed like compares
is R306's decision, the latter two under their switches only (entry 36). (R305, R303, R306) -/
def Obligations.PredicateCommitIsTheAndOfResults : Prop :=
  ∀ (s t : State) (is : List Instr) (d : PReg), AtPacket s is → step s = .next t →
    ((∀ w ∈ is.flatMap fun i => (effectsOf (exec i (s.generated is))).preds, w.1 ≠ d) → t.pred d = s.pred d) ∧
    ((∃ w ∈ is.flatMap fun i => (effectsOf (exec i (s.generated is))).preds, w.1 = d) → ∀ k < 8,
      ((t.pred d).getLsbD k = true ↔
        ∀ w ∈ is.flatMap fun i => (effectsOf (exec i (s.generated is))).preds, w.1 = d → w.2.getLsbD k = true))

/-- A .new guard reads the value that the packet commits to its register. For every state at an admitted packet whose
step answers next t: every instruction of it whose guard reads Pu.new has, while it executes, exactly the value of
Pu in t as newly generated value of Pu, the combined value of all writers. (R310, R313, R311) -/
def Obligations.DotNewReadsTheCommittedValue : Prop :=
  ∀ (s t : State) (is : List Instr) (i : Instr) (u : PReg), AtPacket s is → step s = .next t → i ∈ is →
    i.newReg = some u → (s.generated is).newPred u = some (t.pred u)

/-- A step leaves every byte outside the stores that its instructions record. For every state at an admitted packet
whose step answers next t, and every address that lies in no store recorded by an executed instruction of the
packet: the byte there is as before (written with the same value, or unwritten); and if the packet holds no memory
instruction, all of memory is as before. (R30, R36, R300) -/
def Obligations.MemoryChangesOnlyWhereStored : Prop :=
  ∀ (s t : State) (is : List Instr), AtPacket s is → step s = .next t →
    (∀ b, (∀ i ∈ is, ∀ x ∈ (effectsOf (exec i (s.generated is))).stores, ¬Within x.addr x.bytes.length b) →
      t.mem.find b = s.mem.find b) ∧
    ((∀ i ∈ is, i.role.memory = false) → t.mem = s.mem)

/-- A store conditional clears the reservation; every other packet leaves it. For every state at an admitted packet
whose step answers next t: if the packet holds a store conditional, t has no reservation; otherwise the reservation
of t is that of the old state. (R40, R300) -/
def Obligations.ReservationRule : Prop :=
  ∀ (s t : State) (is : List Instr), AtPacket s is → step s = .next t →
    ((∃ rs pd rt, .memwLockedSt rs pd rt ∈ is) ∨ (∃ rs pd rtt, .memdLockedSt rs pd rtt ∈ is) → t.resv = none) ∧
    ((∀ rs pd rt, .memwLockedSt rs pd rt ∉ is) ∧ (∀ rs pd rtt, .memdLockedSt rs pd rtt ∉ is) → t.resv = s.resv)

/-- The next pc is the target of the executed transfer, else the address after the packet. For every state at an
admitted packet whose step answers next t: if an executed instruction records a pc target, that is the pc of t; if
none does, the pc of t is the old pc plus 4 times the number of instructions, executed or not, and that does not
pass 2^32. INSN_BYTES = 4 is the spec's general knowledge (entry 24, PRESUMED). That the advance stays below 2^32,
so that one to 2^32 itself is refused and none wraps, is the model's reading of R19 and D3 (entry 18, DEDUCED).
(R304, R19) -/
def Obligations.NextPcRule : Prop :=
  ∀ (s t : State) (is : List Instr), AtPacket s is → step s = .next t →
    (∀ i ∈ is, ∀ a, (effectsOf (exec i (s.generated is))).target = some a → t.pc = a) ∧
    ((∀ i ∈ is, (effectsOf (exec i (s.generated is))).target = none) →
      t.pc.toNat = s.pc.toNat + 4 * is.length)

/-- A packet of two transfers that read what the other writes swaps the registers. For all states and different
registers Ra, Rb: at a packet of Ra = Rb and Rb = Ra, with an address after it, the step answers the state in which
the two registers are swapped, the pc is after the packet and nothing else of the spec's state has changed. (R301) -/
def Obligations.PacketReadsOldRegisters : Prop :=
  ∀ (s : State) (ra rb : GReg), ra ≠ rb → AtPacket s [.tfr ra rb, .tfr rb ra] → RoomAfter s 2 →
    step s = .next { s.after 2 with regs := (s.regs.set ra.val (s.reg rb)).set rb.val (s.reg ra) }

/-- A packet of one word store writes its four bytes and nothing else. For every state at a packet of memw(Rs) = Rt
alone whose access is aligned and permitted, with an address after it: the step answers a next state in which the
four bytes from address Rs hold Rt, least significant first, every other byte, all registers, predicates and the
reservation are as before, and the pc is after the packet. (R216, R32, R304) -/
def Obligations.StoreThenMemoryHoldsTheBytes : Prop :=
  ∀ (s : State) (rs rt : GReg), AtPacket s [.memwSt rs rt] → AccessOk s (s.reg rs) 4 .write → RoomAfter s 1 →
    ∃ t, step s = .next t ∧
      (∀ k < 4, t.mem.find ((s.reg rs).toNat + k) = some ((s.reg rt).extractLsb' (8 * k) 8)) ∧
      (∀ b, ¬Within (s.reg rs) 4 b → t.mem.find b = s.mem.find b) ∧
      t.regs = s.regs ∧ t.preds = s.preds ∧ t.resv = s.resv ∧ t.pc = s.pcAfter 1

/-- A load takes byte i from address a + i; a part of a stored value reads back. For every state, address, size of 1, 2,
4 or 8 bytes and i below it, bits 8i+7:8i of the value loaded are the byte at a + i; byte i of what a store of v
writes is bits 8i+7:8i of v; and after the bytes of a doubleword v are written at a, the word read at a + 4 is bits
63:32 of v. This is the byte order: the spec's decision D4 and general knowledge, which its source does not state
(entry 29, DEDUCED); R32 marks the last clause as derived. (R32, R31) -/
def Obligations.LoadedValueIsLittleEndian : Prop :=
  (∀ (s : State) (a : Word) (n i : Nat), n ∈ [1, 2, 4, 8] → i < n →
    (s.load a n (8 * n)).extractLsb' (8 * i) 8 = s.byteAt (a.toNat + i)) ∧
  (∀ (v : DWord) (n i : Nat), n ∈ [1, 2, 4, 8] → i < n → (littleBytes v n)[i]? = some (v.extractLsb' (8 * i) 8)) ∧
  (∀ (s : State) (a : Word) (v : DWord), a.toNat + 8 ≤ 2 ^ 32 →
    State.load { s with mem := s.mem.putBytes a.toNat (littleBytes v 8) } (a + 4#32) 4 32 = v.extractLsb' 32 32)

/-- P3:0 = Rd after Rd = P3:0 restores all four predicates. For every state s, the value v that Rd = P3:0 writes in s,
put into a register and given to P3:0 = Rs in any state u, yields as results for P0 to P3 exactly the four
predicates of s. (R520, R521, R17) -/
def Obligations.QuadrupleSavesAndRestores : Prop :=
  ∀ (rd rs : GReg) (s u : State), ∃ v, exec (.tfrRp4 rd) s = .next (s.recordReg rd v) ∧
    (u.reg rs = v →
      exec (.tfrP4r rs) u =
        .next ((((u.recordPred 0 (s.pred 0)).recordPred 1 (s.pred 1)).recordPred 2 (s.pred 2)).recordPred 3 (s.pred 3)))

/-- Two negated compares to one register give the negation of the OR. For every state at a packet of Pd = !cmp.eq(Rs,Rt)
and Pd = !cmp.gtu(Ru,Rv), with an address after it, the step answers a next state in which Pd is 0x00 if one of the
two compares holds and 0xFF if neither does, and every other predicate register, every general register and memory
are as before. (R307, R305, R158) -/
def Obligations.OrByNegatedCompares : Prop :=
  ∀ (s : State) (d : PReg) (rs rt ru rv : GReg), AtPacket s [.ncmpEqRr d rs rt, .ncmpGtuRr d ru rv] → RoomAfter s 2 →
    ∃ t, step s = .next t ∧
      (s.reg rs = s.reg rt ∨ (s.reg rv).toNat < (s.reg ru).toNat → t.pred d = 0x00#8) ∧
      (¬(s.reg rs = s.reg rt ∨ (s.reg rv).toNat < (s.reg ru).toNat) → t.pred d = 0xFF#8) ∧
      (∀ q, q ≠ d → t.pred q = s.pred q) ∧ t.regs = s.regs ∧ t.mem = s.mem

/-- Every conditional instruction does what its operation does if its guard is true, and nothing if it is false. For
every instruction i with a guard, the instruction j that is the same operation without a guard, and every state: if
the guard is true, exec i is exec j; if it is false, exec i answers the same state, whatever the operands and
addresses; if it is a .new guard without a newly generated value, exec i is refused. That the false guard makes the
whole form a no-op is R201 with decision D23 (entry 35, DEDUCED). That exec answers a refusal in the last case is
the model's choice (entry 16, DEDUCED): R311 gives it the outcome undefined, without a next state, which R600 keeps
apart from a refusal. (R200, R201, R202, R203, R604, R311) -/
def Obligations.GuardDecidesExecution : Prop :=
  ∀ (i j : Instr) (g : Guard) (s : State), i.guard = some g → j.guard = none → j.op = i.op →
    (s.guardValue g = some true → exec i s = exec j s) ∧
    (s.guardValue g = some false → exec i s = .next s) ∧
    (s.guardValue g = none → exec i s = .refused .undefinedNewPredicate)

/-- Two executed writers of one general register raise the multiple-write error. For every state at an admitted packet
all of whose instructions have a next state: if two instructions of it, at different places, record a write to one
general register, the step raises MultipleWriteError for some register, with the packet's address. The address in
the report is R601's; that a pair counts as both of its registers is decision D32. That this error is the one named
where the packet also has overlapping accesses or no next pc is the model's choice (entry 14, DEDUCED): R607 leaves
open which is reported. (R322, R601, R300) -/
def Obligations.TwoExecutedWritersRaise : Prop :=
  ∀ (s : State) (l₁ l₂ l₃ : List Instr) (i j : Instr) (r : GReg) (v w : Word),
    AtPacket s (l₁ ++ i :: l₂ ++ j :: l₃) →
    (∀ k ∈ l₁ ++ i :: l₂ ++ j :: l₃, ∃ u, exec k (s.generated (l₁ ++ i :: l₂ ++ j :: l₃)) = .next u) →
    (r, v) ∈ (effectsOf (exec i (s.generated (l₁ ++ i :: l₂ ++ j :: l₃)))).regs →
    (r, w) ∈ (effectsOf (exec j (s.generated (l₁ ++ i :: l₂ ++ j :: l₃)))).regs →
    ∃ q, step s = .fault (.raised (.multipleWriteError q s.pc))

/-- The multiple-write error comes only from two guarded writers whose guards are both true. For every state at an
admitted packet whose step raises MultipleWriteError: the reported address is the pc, and two instructions of the
packet at different places have a guard that is true and the reported register as a destination. (R601, R321, R320) -/
def Obligations.OnlyGuardedWritersRaise : Prop :=
  ∀ (s : State) (is : List Instr) (r : GReg) (a : Word), AtPacket s is →
    step s = .fault (.raised (.multipleWriteError r a)) →
    a = s.pc ∧ ∃ l₁ i l₂ j l₃ g h, is = l₁ ++ i :: l₂ ++ j :: l₃ ∧
      i.guard = some g ∧ j.guard = some h ∧
      (s.generated is).guardValue g = some true ∧ (s.generated is).guardValue h = some true ∧
      r ∈ i.role.regs ∧ r ∈ j.role.regs

/-- A misaligned access faults; an aligned access that is not permitted raises the violation. For every state and every
load, store, store conditional and dealloc_return without a guard: if the address is no multiple of the size or the
bytes pass 2^32, exec faults with MisalignedAccess; if it is in order but MemAdmit refuses it, exec raises
MemoryPermissionViolation with the address and the kind. (The guarded forms: GuardDecidesExecution.) That the fault
is the one named where MemAdmit refuses the access too is the model's choice (entry 10, DEDUCED from R33 and D5):
R607 leaves open which is reported. (R33, R34, R602) -/
def Obligations.BadAccessesStop : Prop :=
  ∀ (pd : PReg) (rd rs rt : GReg) (rdd rtt : PairReg) (s : State),
    ∀ c ∈ ([
      (exec (.memwLd rd rs) s, (s.reg rs), 4, .read),
      (exec (.memdLd rdd rs) s, (s.reg rs), 8, .read),
      (exec (.membLd rd rs) s, (s.reg rs), 1, .read),
      (exec (.memubLd rd rs) s, (s.reg rs), 1, .read),
      (exec (.memhLd rd rs) s, (s.reg rs), 2, .read),
      (exec (.memuhLd rd rs) s, (s.reg rs), 2, .read),
      (exec (.memwSt rs rt) s, (s.reg rs), 4, .write),
      (exec (.memdSt rs rtt) s, (s.reg rs), 8, .write),
      (exec (.membSt rs rt) s, (s.reg rs), 1, .write),
      (exec (.memhSt rs rt) s, (s.reg rs), 2, .write),
      (exec (.memwLockedSt rs pd rt) s, (s.reg rs), 4, .write),
      (exec (.memdLockedSt rs pd rtt) s, (s.reg rs), 8, .write),
      (exec .deallocReturn s, (s.reg 30), 8, .read)] :
        List (Result × Word × Nat × AccessKind)),
      (¬(c.2.1.toNat % c.2.2.1 = 0 ∧ c.2.1.toNat + c.2.2.1 ≤ 2 ^ 32) → c.1 = .fault (.misalignedAccess c.2.1 c.2.2.1)) ∧
      (c.2.1.toNat % c.2.2.1 = 0 ∧ c.2.1.toNat + c.2.2.1 ≤ 2 ^ 32 → s.permits c.2.1 c.2.2.1 c.2.2.2 = false →
        c.1 = .fault (.raised (.memoryPermissionViolation c.2.1 c.2.2.2)))

/-- A .new guard without a producer in its packet is refused. For every state whose packet's lines decode to
instructions of which one has a guard Pu.new or !Pu.new while none writes Pu, or only quadruple transfers do: the
step is refused, so it has no next state. That quadruple transfers do not count is the spec's decision D38 (entry
39). (R311, R324) -/
def Obligations.NewWithoutProducerIsRefused : Prop :=
  ∀ (s : State) (p : PacketText) (is : List Instr) (i : Instr) (u : PReg),
    s.launch.packetAt s.pc = some p → readLines p.lines = some is → i ∈ is → i.newReg = some u →
    (∀ j ∈ is, u ∈ j.role.preds → j.role.quad = true) → ∃ r, step s = .refused r

/-- Two writers of one predicate register of which one may not share it are refused. For every state whose packet's
lines decode to instructions of which two, at different places, write one predicate register Pd: if the model's
table gives one of them no right to share, the step is refused. And the table is R306's, named form by form, the
writers being known by what they do: if two instructions can generate Pd and one of them is a form on the restricted
list or a transfer from a general register (sfcmp and dfcmp with .eq, .gt, .ge and .uo, tlbmatch, memw_locked,
memd_locked, Pd = Rs, P3:0 = Rs, C5:4 = Rss), or is one of the sixteen predicate logical instructions while
AutoAndLogical is off, or sfclass, dfclass or boundscheck while AutoAndOther is off, the step is refused. The source
does not settle the predicate logical instructions nor sfclass, dfclass and boundscheck: that they are refused is
the spec's decisions D28 and D39, which the model takes over (entry 36, DEDUCED). (R306, R308, R323, R324) -/
def Obligations.RestrictedSharingIsRefused : Prop :=
  ∀ (s : State) (p : PacketText) (l₁ l₂ l₃ : List Instr) (i j : Instr) (d : PReg),
    s.launch.packetAt s.pc = some p → readLines p.lines = some (l₁ ++ i :: l₂ ++ j :: l₃) →
    (d ∈ i.role.preds → d ∈ j.role.preds →
      (s.launch.mayShare i.role.sharing = false ∨ s.launch.mayShare j.role.sharing = false) →
        ∃ r, step s = .refused r) ∧
    (CanGenerate i d → CanGenerate j d →
      (∃ k ∈ [i, j], ∃ (rs rt : GReg) (rss rtt : PairReg) (n : Int) (ps pt pu : PReg),
        k ∈ [.sfcmpEq d rs rt, .sfcmpGt d rs rt, .sfcmpGe d rs rt, .sfcmpUo d rs rt, .dfcmpEq d rss rtt,
          .dfcmpGt d rss rtt, .dfcmpGe d rss rtt, .dfcmpUo d rss rtt, .tlbmatch d rss rt, .memwLockedSt rs d rt,
          .memdLockedSt rs d rtt, .tfrPr d rs, .tfrP4r rs, .tfrC54 rss] ∨
        (s.launch.autoAndLogical = false ∧
          k ∈ [.andPp d ps pt, .andPpn d ps pt, .orPp d ps pt, .orPpn d ps pt, .andAndPpp d ps pt pu,
            .andAndPppn d ps pt pu, .andOrPpp d ps pt pu, .andOrPppn d ps pt pu, .orAndPpp d ps pt pu,
            .orAndPppn d ps pt pu, .orOrPpp d ps pt pu, .orOrPppn d ps pt pu, .notP d ps, .xorPp d ps pt, .any8 d ps,
            .all8 d ps]) ∨
        (s.launch.autoAndOther = false ∧ k ∈ [.sfclass d rs n, .dfclass d rss n, .boundscheck d rs rtt])) →
        ∃ r, step s = .refused r)

/-- Two executed accesses that share a byte, one a store, are refused. For every state at an admitted packet all of
whose instructions have a next state and record no general register twice: if a store recorded by one instruction
shares a byte with a store or a load recorded by another one, the step is refused with OverlappingPacketAccesses.
That overlapping accesses are refused is the spec's decision D8. That this refusal is the one named where the packet
also has no next pc is the model's choice (entry 14, DEDUCED): R607 leaves open which is reported. (R44, R300) -/
def Obligations.OverlappingAccessesAreRefused : Prop :=
  ∀ (s : State) (is l₁ l₂ l₃ : List Instr) (i j : Instr) (x : Store) (b : Nat), is = l₁ ++ i :: l₂ ++ j :: l₃ →
    AtPacket s is → (∀ k ∈ is, ∃ u, exec k (s.generated is) = .next u) →
    duplicate (is.flatMap fun k => (effectsOf (exec k (s.generated is))).regs) = none →
    (x ∈ (effectsOf (exec i (s.generated is))).stores ∧
        ((∃ y ∈ (effectsOf (exec j (s.generated is))).stores, Within y.addr y.bytes.length b) ∨
          (∃ y ∈ (effectsOf (exec j (s.generated is))).loads, Within y.addr y.size b)) ∨
      x ∈ (effectsOf (exec j (s.generated is))).stores ∧
        ((∃ y ∈ (effectsOf (exec i (s.generated is))).stores, Within y.addr y.bytes.length b) ∨
          (∃ y ∈ (effectsOf (exec i (s.generated is))).loads, Within y.addr y.size b))) →
    Within x.addr x.bytes.length b → step s = .refused .overlappingPacketAccesses

/-- Without a reservation a store conditional fails: memory unchanged, Pd = 0x00. For every state without a reservation
at a packet of memw_locked(Rs,Pd) = Rt alone (or memd_locked) whose access is aligned and permitted, with an address
after it: the step answers the state in which Pd is 0x00, the pc is after the packet and nothing else of the spec's
state has changed. (R40, R152, R153) -/
def Obligations.NoReservationMeansNoStore : Prop :=
  ∀ (s : State) (rs rt : GReg) (rtt : PairReg) (pd : PReg), s.resv = none → RoomAfter s 1 →
    (AtPacket s [.memwLockedSt rs pd rt] → AccessOk s (s.reg rs) 4 .write →
      step s = .next { s.after 1 with preds := s.preds.set pd.val 0x00#8 }) ∧
    (AtPacket s [.memdLockedSt rs pd rtt] → AccessOk s (s.reg rs) 8 .write →
      step s = .next { s.after 1 with preds := s.preds.set pd.val 0x00#8 })

/-- Immediates out of range, unknown labels and switched-off instructions are refused. For every state, not at HALT_PC,
whose packet of 1 to 4 lines decodes to instructions: if an immediate is out of its range the step is refused with
ImmediateOutOfRange; if all are in range and a jump or call names a label that the program does not define, with
UnknownLabel; and if one needs a switch that is off, it is refused. The ranges are named form by form, as R53's
table has them, and within them the check of the immediate passes; those of the transfer immediate and of add, 16
bits without a guard and 12 and 8 with one, are the spec's general knowledge (entry 24, PRESUMED). So are the
instructions that need a switch (R324): tlbmatch needs AdmitTlbmatch; call, jumpr, callr, dealloc_return, the byte
and halfword loads and stores and the .gt and .gtu vector compares, guarded or not, need AdmitGK. R324 gives the
checks no order: that these two reasons are named before every other failing check of the packet, in this order, and
that an unknown label is refused whatever the guard, is the model's choice (entry 15, DESIGN CHOICE). (R53, R210,
R220, R235, R324) -/
def Obligations.StaticFormRefusals : Prop :=
  ∀ (s : State) (p : PacketText) (is : List Instr) (i : Instr),
    s.launch.haltPc ≠ some s.pc → s.launch.packetAt s.pc = some p → 1 ≤ p.lines.length → p.lines.length ≤ 4 →
    readLines p.lines = some is → i ∈ is →
    (i.immediateOk = false → step s = .refused .immediateOutOfRange) ∧
    (∀ l, (∀ j ∈ is, j.immediateOk = true) → i.op.label = some l → s.launch.labelAddr l = none →
      step s = .refused .unknownLabel) ∧
    (∀ w, i.role.switch = some w → s.launch.switchOn w = false → ∃ r, step s = .refused r) ∧
    (∀ (pd pu : PReg) (rd rs : GReg) (rss : PairReg) (n lo hi : Int),
      (i, lo, hi) ∈ ([(.cmpEqRi pd rs n, -512, 511), (.ncmpEqRi pd rs n, -512, 511), (.cmpGtRi pd rs n, -512, 511),
        (.ncmpGtRi pd rs n, -512, 511), (.cmpGtuRi pd rs n, 0, 511), (.ncmpGtuRi pd rs n, 0, 511),
        (.cmpbEqRi pd rs n, 0, 255), (.cmpbGtRi pd rs n, -128, 127), (.cmphEqRi pd rs n, -128, 127),
        (.cmphGtRi pd rs n, -128, 127), (.cmpGeRi pd rs n, -128, 127), (.cmpbGtuRi pd rs n, 0, 127),
        (.cmphGtuRi pd rs n, 0, 127), (.cmpGeuRi pd rs n, 0, 255), (.sfclass pd rs n, 0, 31),
        (.dfclass pd rss n, 0, 31), (.tstbitRi pd rs n, 0, 31), (.ntstbitRi pd rs n, 0, 31),
        (.bitsclrRi pd rs n, 0, 63), (.nbitsclrRi pd rs n, 0, 63), (.tfri rd n, -32768, 32767),
        (.tfriIfT pu rd n, -2048, 2047), (.tfriIfF pu rd n, -2048, 2047), (.tfriIfTnew pu rd n, -2048, 2047),
        (.tfriIfFnew pu rd n, -2048, 2047), (.addRi rd rs n, -32768, 32767), (.addRiIfT pu rd rs n, -128, 127),
        (.addRiIfF pu rd rs n, -128, 127), (.addRiIfTnew pu rd rs n, -128, 127),
        (.addRiIfFnew pu rd rs n, -128, 127)] : List (Instr × Int × Int)) →
      (n < lo ∨ hi < n → step s = .refused .immediateOutOfRange) ∧ (lo ≤ n ∧ n ≤ hi → i.immediateOk = true)) ∧
    (∀ (pd : PReg) (rd rs rt : GReg) (rss rtt : PairReg) (l : Label),
      (s.launch.tlbmatchOn = false ∧ i = .tlbmatch pd rss rt) ∨
      (s.launch.gkOn = false ∧
        i.op ∈ [.call l, .jumpr rs, .callr rs, .deallocReturn, .membLd rd rs, .memubLd rd rs, .memhLd rd rs,
          .memuhLd rd rs, .membSt rs rt, .memhSt rs rt, .vcmpbGt pd rss rtt, .vcmpbGtu pd rss rtt,
          .vcmphGt pd rss rtt, .vcmphGtu pd rss rtt, .vcmpwGt pd rss rtt, .vcmpwGtu pd rss rtt]) →
      ∃ r, step s = .refused r)

/-- At HALT_PC the run has ended; at an address without a packet the step is refused. For every state: if the pc is
HALT_PC the step answers that the run has ended; if it is not and the program has no packet at the pc, the step is
refused with NoPacketAtPc. R300 and R704 say only that the run has ended at HALT_PC: that the step answers a refusal
of its own there is the model's choice (entry 31, DESIGN CHOICE). (R300, R704) -/
def Obligations.RunsEndOrStopOffTheProgram : Prop :=
  ∀ s : State,
    (s.launch.haltPc = some s.pc → step s = .refused .runEnded) ∧
    (s.launch.haltPc ≠ some s.pc → s.launch.packetAt s.pc = none → step s = .refused .noPacketAtPc)

/-- The mappings of the assembler between spellings keep the meaning. For every state and all operands in range: cmp.lt
and cmp.ltu are cmp.gt and cmp.gtu with the operands swapped; cmp.ge with k is cmp.gt with k - 1; cmp.geu with a k
that is not 0 is cmp.gtu with k - 1, and with 0 it is cmp.eq(Rs,Rs); Pd = Ps is or(Ps,Ps). (R59) -/
def Obligations.AssemblerMappingsKeepTheMeaning : Prop :=
  ∀ (pd ps : PReg) (rs rt : GReg) (k : Int) (s : State),
    exec (.cmpLtRr pd rs rt) s = exec (.cmpGtRr pd rt rs) s ∧
    exec (.cmpLtuRr pd rs rt) s = exec (.cmpGtuRr pd rt rs) s ∧
    (-128 ≤ k ∧ k ≤ 127 → exec (.cmpGeRi pd rs k) s = exec (.cmpGtRi pd rs (k - 1)) s) ∧
    (1 ≤ k ∧ k ≤ 255 → exec (.cmpGeuRi pd rs k) s = exec (.cmpGtuRi pd rs (k - 1)) s) ∧
    exec (.cmpGeuRi pd rs 0) s = exec (.cmpEqRr pd rs rs) s ∧
    exec (.tfrPp pd ps) s = exec (.orPp pd ps ps) s

/-- Of two values exactly one of greater, less, equal and unordered holds. For every state and all operands, of
sfcmp.gt(Rs,Rt), sfcmp.gt(Rt,Rs), sfcmp.eq(Rs,Rt) and sfcmp.uo(Rs,Rt) exactly one yields 0xFF and three yield 0x00,
and likewise for dfcmp. The formats and the treatment of a NaN are the spec's decision D14 and general knowledge,
which the model takes over (entry 23, PRESUMED). (R110, R111, R121, R122, R138, R139, R157) -/
def Obligations.FloatTrichotomy : Prop :=
  ∀ (pd : PReg) (rs rt : GReg) (rss rtt : PairReg) (s : State),
    (∃ k : Fin 4, ∀ n : Fin 4,
      exec ([.sfcmpGt pd rs rt, .sfcmpGt pd rt rs, .sfcmpEq pd rs rt, .sfcmpUo pd rs rt].get n) s =
        .next (s.recordPred pd (if n = k then 0xFF#8 else 0x00#8))) ∧
    (∃ k : Fin 4, ∀ n : Fin 4,
      exec ([.dfcmpGt pd rss rtt, .dfcmpGt pd rtt rss, .dfcmpEq pd rss rtt, .dfcmpUo pd rss rtt].get n) s =
        .next (s.recordPred pd (if n = k then 0xFF#8 else 0x00#8)))

/-- ClassBit is a bijection: an immediate of one bit tests for one class, in both precisions. For every state there is a
map from the bit numbers 0 to 4 to the classes, inverse to ClassBit in both directions, such that sfclass and
dfclass with the immediate that has bit k alone answer a next state that differs by one predicate result for Pd:
0xFF exactly when the class of the value is the one that the map gives to k. R140 and D15 call ClassBit a bijection;
which bit stands for which class is a launch parameter (entry 19). (R140, R141, R157) -/
def Obligations.OneClassImmediatesTestThatClass : Prop :=
  ∀ s : State, ∃ cls : Fin 5 → FpClass,
    (∀ k, s.launch.classBits.bit (cls k) = k) ∧ (∀ c, cls (s.launch.classBits.bit c) = c) ∧
    ∀ (pd : PReg) (rs : GReg) (rss : PairReg) (k : Fin 5),
      Generates (.sfclass pd rs ((2 ^ k.val : Nat) : Int)) s pd (single.classOf (s.reg rs) = cls k) ∧
      Generates (.dfclass pd rss ((2 ^ k.val : Nat) : Int)) s pd (double.classOf (s.pair rss) = cls k)
end

