-- ==== Sys2Proof/Laws/State.lean ====
section
/-!
SUPPORT. One lemma per field and per update of the state, each true by unfolding, so that no proof unfolds a record
update: what recording an effect changes and what it leaves.
-/

namespace Sys2Proof.Machine

/-! ### `withEffects` -/

@[simp] theorem State.withEffects_regs (s : State) (e : Effects) : (s.withEffects e).regs = s.regs := rfl
@[simp] theorem State.withEffects_preds (s : State) (e : Effects) : (s.withEffects e).preds = s.preds := rfl
@[simp] theorem State.withEffects_pc (s : State) (e : Effects) : (s.withEffects e).pc = s.pc := rfl
@[simp] theorem State.withEffects_mem (s : State) (e : Effects) : (s.withEffects e).mem = s.mem := rfl
@[simp] theorem State.withEffects_resv (s : State) (e : Effects) : (s.withEffects e).resv = s.resv := rfl
@[simp] theorem State.withEffects_launch (s : State) (e : Effects) : (s.withEffects e).launch = s.launch := rfl
@[simp] theorem State.withEffects_tick (s : State) (e : Effects) : (s.withEffects e).tick = s.tick := rfl
@[simp] theorem State.withEffects_pkt_size (s : State) (e : Effects) : (s.withEffects e).pkt.size = s.pkt.size := rfl
@[simp] theorem State.withEffects_pkt_newP (s : State) (e : Effects) : (s.withEffects e).pkt.newP = s.pkt.newP := rfl
@[simp] theorem State.withEffects_regs_recorded (s : State) (e : Effects) :
    (s.withEffects e).pkt.effects.regs = e.regs := rfl
@[simp] theorem State.withEffects_preds_recorded (s : State) (e : Effects) :
    (s.withEffects e).pkt.effects.preds = e.preds := rfl
@[simp] theorem State.withEffects_loads_recorded (s : State) (e : Effects) :
    (s.withEffects e).pkt.effects.loads = e.loads := rfl
@[simp] theorem State.withEffects_stores_recorded (s : State) (e : Effects) :
    (s.withEffects e).pkt.effects.stores = e.stores := rfl
@[simp] theorem State.withEffects_target_recorded (s : State) (e : Effects) :
    (s.withEffects e).pkt.effects.target = e.target := rfl
@[simp] theorem State.withEffects_clearsResv_recorded (s : State) (e : Effects) :
    (s.withEffects e).pkt.effects.clearsResv = e.clearsResv := rfl
@[simp] theorem State.withEffects_reg (s : State) (e : Effects) (q : GReg) : (s.withEffects e).reg q = s.reg q := rfl
@[simp] theorem State.withEffects_pair (s : State) (e : Effects) (q : PairReg) :
    (s.withEffects e).pair q = s.pair q := rfl
@[simp] theorem State.withEffects_pred (s : State) (e : Effects) (q : PReg) :
    (s.withEffects e).pred q = s.pred q := rfl
@[simp] theorem State.withEffects_quad (s : State) (e : Effects) : (s.withEffects e).quad = s.quad := rfl
@[simp] theorem State.withEffects_newPred (s : State) (e : Effects) (q : PReg) :
    (s.withEffects e).newPred q = s.newPred q := rfl
@[simp] theorem State.withEffects_byteAt (s : State) (e : Effects) (b : Nat) :
    (s.withEffects e).byteAt b = s.byteAt b := rfl
@[simp] theorem State.withEffects_returnAddress (s : State) (e : Effects) :
    (s.withEffects e).returnAddress = s.returnAddress := rfl

/-! ### `recordReg` -/

@[simp] theorem State.recordReg_regs (s : State) (r : GReg) (v : Word) : (s.recordReg r v).regs = s.regs := rfl
@[simp] theorem State.recordReg_preds (s : State) (r : GReg) (v : Word) : (s.recordReg r v).preds = s.preds := rfl
@[simp] theorem State.recordReg_pc (s : State) (r : GReg) (v : Word) : (s.recordReg r v).pc = s.pc := rfl
@[simp] theorem State.recordReg_mem (s : State) (r : GReg) (v : Word) : (s.recordReg r v).mem = s.mem := rfl
@[simp] theorem State.recordReg_resv (s : State) (r : GReg) (v : Word) : (s.recordReg r v).resv = s.resv := rfl
@[simp] theorem State.recordReg_launch (s : State) (r : GReg) (v : Word) : (s.recordReg r v).launch = s.launch := rfl
@[simp] theorem State.recordReg_tick (s : State) (r : GReg) (v : Word) : (s.recordReg r v).tick = s.tick := rfl
@[simp] theorem State.recordReg_pkt_size (s : State) (r : GReg) (v : Word) :
    (s.recordReg r v).pkt.size = s.pkt.size := rfl
@[simp] theorem State.recordReg_pkt_newP (s : State) (r : GReg) (v : Word) :
    (s.recordReg r v).pkt.newP = s.pkt.newP := rfl
@[simp] theorem State.recordReg_regs_recorded (s : State) (r : GReg) (v : Word) :
    (s.recordReg r v).pkt.effects.regs =
      s.pkt.effects.regs ++ [(r, v)] := rfl
@[simp] theorem State.recordReg_preds_recorded (s : State) (r : GReg) (v : Word) :
    (s.recordReg r v).pkt.effects.preds = s.pkt.effects.preds := rfl
@[simp] theorem State.recordReg_loads_recorded (s : State) (r : GReg) (v : Word) :
    (s.recordReg r v).pkt.effects.loads = s.pkt.effects.loads := rfl
@[simp] theorem State.recordReg_stores_recorded (s : State) (r : GReg) (v : Word) :
    (s.recordReg r v).pkt.effects.stores = s.pkt.effects.stores := rfl
@[simp] theorem State.recordReg_target_recorded (s : State) (r : GReg) (v : Word) :
    (s.recordReg r v).pkt.effects.target = s.pkt.effects.target := rfl
@[simp] theorem State.recordReg_clearsResv_recorded (s : State) (r : GReg) (v : Word) :
    (s.recordReg r v).pkt.effects.clearsResv =
      s.pkt.effects.clearsResv := rfl
@[simp] theorem State.recordReg_reg (s : State) (r : GReg) (v : Word) (q : GReg) :
    (s.recordReg r v).reg q = s.reg q := rfl
@[simp] theorem State.recordReg_pair (s : State) (r : GReg) (v : Word) (q : PairReg) :
    (s.recordReg r v).pair q = s.pair q := rfl
@[simp] theorem State.recordReg_pred (s : State) (r : GReg) (v : Word) (q : PReg) :
    (s.recordReg r v).pred q = s.pred q := rfl
@[simp] theorem State.recordReg_quad (s : State) (r : GReg) (v : Word) : (s.recordReg r v).quad = s.quad := rfl
@[simp] theorem State.recordReg_newPred (s : State) (r : GReg) (v : Word) (q : PReg) :
    (s.recordReg r v).newPred q = s.newPred q := rfl
@[simp] theorem State.recordReg_byteAt (s : State) (r : GReg) (v : Word) (b : Nat) :
    (s.recordReg r v).byteAt b = s.byteAt b := rfl
@[simp] theorem State.recordReg_returnAddress (s : State) (r : GReg) (v : Word) :
    (s.recordReg r v).returnAddress = s.returnAddress := rfl

/-! ### `recordPair` -/

@[simp] theorem State.recordPair_regs (s : State) (k : PairReg) (v : DWord) : (s.recordPair k v).regs = s.regs := rfl
@[simp] theorem State.recordPair_preds (s : State) (k : PairReg) (v : DWord) :
    (s.recordPair k v).preds = s.preds := rfl
@[simp] theorem State.recordPair_pc (s : State) (k : PairReg) (v : DWord) : (s.recordPair k v).pc = s.pc := rfl
@[simp] theorem State.recordPair_mem (s : State) (k : PairReg) (v : DWord) : (s.recordPair k v).mem = s.mem := rfl
@[simp] theorem State.recordPair_resv (s : State) (k : PairReg) (v : DWord) : (s.recordPair k v).resv = s.resv := rfl
@[simp] theorem State.recordPair_launch (s : State) (k : PairReg) (v : DWord) :
    (s.recordPair k v).launch = s.launch := rfl
@[simp] theorem State.recordPair_tick (s : State) (k : PairReg) (v : DWord) : (s.recordPair k v).tick = s.tick := rfl
@[simp] theorem State.recordPair_pkt_size (s : State) (k : PairReg) (v : DWord) :
    (s.recordPair k v).pkt.size = s.pkt.size := rfl
@[simp] theorem State.recordPair_pkt_newP (s : State) (k : PairReg) (v : DWord) :
    (s.recordPair k v).pkt.newP = s.pkt.newP := rfl
@[simp] theorem State.recordPair_regs_recorded (s : State) (k : PairReg) (v : DWord) :
    (s.recordPair k v).pkt.effects.regs =
      (s.pkt.effects.regs ++ [(evenReg k, v.extractLsb' 0 32)]) ++ [(oddReg k, v.extractLsb' 32 32)] := rfl
@[simp] theorem State.recordPair_preds_recorded (s : State) (k : PairReg) (v : DWord) :
    (s.recordPair k v).pkt.effects.preds =
      s.pkt.effects.preds := rfl
@[simp] theorem State.recordPair_loads_recorded (s : State) (k : PairReg) (v : DWord) :
    (s.recordPair k v).pkt.effects.loads =
      s.pkt.effects.loads := rfl
@[simp] theorem State.recordPair_stores_recorded (s : State) (k : PairReg) (v : DWord) :
    (s.recordPair k v).pkt.effects.stores =
      s.pkt.effects.stores := rfl
@[simp] theorem State.recordPair_target_recorded (s : State) (k : PairReg) (v : DWord) :
    (s.recordPair k v).pkt.effects.target =
      s.pkt.effects.target := rfl
@[simp] theorem State.recordPair_clearsResv_recorded (s : State) (k : PairReg) (v : DWord) :
    (s.recordPair k v).pkt.effects.clearsResv =
      s.pkt.effects.clearsResv := rfl
@[simp] theorem State.recordPair_reg (s : State) (k : PairReg) (v : DWord) (q : GReg) :
    (s.recordPair k v).reg q = s.reg q := rfl
@[simp] theorem State.recordPair_pair (s : State) (k : PairReg) (v : DWord) (q : PairReg) :
    (s.recordPair k v).pair q = s.pair q := rfl
@[simp] theorem State.recordPair_pred (s : State) (k : PairReg) (v : DWord) (q : PReg) :
    (s.recordPair k v).pred q = s.pred q := rfl
@[simp] theorem State.recordPair_quad (s : State) (k : PairReg) (v : DWord) : (s.recordPair k v).quad = s.quad := rfl
@[simp] theorem State.recordPair_newPred (s : State) (k : PairReg) (v : DWord) (q : PReg) :
    (s.recordPair k v).newPred q = s.newPred q := rfl
@[simp] theorem State.recordPair_byteAt (s : State) (k : PairReg) (v : DWord) (b : Nat) :
    (s.recordPair k v).byteAt b = s.byteAt b := rfl
@[simp] theorem State.recordPair_returnAddress (s : State) (k : PairReg) (v : DWord) :
    (s.recordPair k v).returnAddress = s.returnAddress := rfl

/-! ### `recordPred` -/

@[simp] theorem State.recordPred_regs (s : State) (p : PReg) (v : Byte) : (s.recordPred p v).regs = s.regs := rfl
@[simp] theorem State.recordPred_preds (s : State) (p : PReg) (v : Byte) : (s.recordPred p v).preds = s.preds := rfl
@[simp] theorem State.recordPred_pc (s : State) (p : PReg) (v : Byte) : (s.recordPred p v).pc = s.pc := rfl
@[simp] theorem State.recordPred_mem (s : State) (p : PReg) (v : Byte) : (s.recordPred p v).mem = s.mem := rfl
@[simp] theorem State.recordPred_resv (s : State) (p : PReg) (v : Byte) : (s.recordPred p v).resv = s.resv := rfl
@[simp] theorem State.recordPred_launch (s : State) (p : PReg) (v : Byte) :
    (s.recordPred p v).launch = s.launch := rfl
@[simp] theorem State.recordPred_tick (s : State) (p : PReg) (v : Byte) : (s.recordPred p v).tick = s.tick := rfl
@[simp] theorem State.recordPred_pkt_size (s : State) (p : PReg) (v : Byte) :
    (s.recordPred p v).pkt.size = s.pkt.size := rfl
@[simp] theorem State.recordPred_pkt_newP (s : State) (p : PReg) (v : Byte) :
    (s.recordPred p v).pkt.newP = s.pkt.newP := rfl
@[simp] theorem State.recordPred_regs_recorded (s : State) (p : PReg) (v : Byte) :
    (s.recordPred p v).pkt.effects.regs = s.pkt.effects.regs := rfl
@[simp] theorem State.recordPred_preds_recorded (s : State) (p : PReg) (v : Byte) :
    (s.recordPred p v).pkt.effects.preds =
      s.pkt.effects.preds ++ [(p, v)] := rfl
@[simp] theorem State.recordPred_loads_recorded (s : State) (p : PReg) (v : Byte) :
    (s.recordPred p v).pkt.effects.loads = s.pkt.effects.loads := rfl
@[simp] theorem State.recordPred_stores_recorded (s : State) (p : PReg) (v : Byte) :
    (s.recordPred p v).pkt.effects.stores =
      s.pkt.effects.stores := rfl
@[simp] theorem State.recordPred_target_recorded (s : State) (p : PReg) (v : Byte) :
    (s.recordPred p v).pkt.effects.target =
      s.pkt.effects.target := rfl
@[simp] theorem State.recordPred_clearsResv_recorded (s : State) (p : PReg) (v : Byte) :
    (s.recordPred p v).pkt.effects.clearsResv =
      s.pkt.effects.clearsResv := rfl
@[simp] theorem State.recordPred_reg (s : State) (p : PReg) (v : Byte) (q : GReg) :
    (s.recordPred p v).reg q = s.reg q := rfl
@[simp] theorem State.recordPred_pair (s : State) (p : PReg) (v : Byte) (q : PairReg) :
    (s.recordPred p v).pair q = s.pair q := rfl
@[simp] theorem State.recordPred_pred (s : State) (p : PReg) (v : Byte) (q : PReg) :
    (s.recordPred p v).pred q = s.pred q := rfl
@[simp] theorem State.recordPred_quad (s : State) (p : PReg) (v : Byte) : (s.recordPred p v).quad = s.quad := rfl
@[simp] theorem State.recordPred_newPred (s : State) (p : PReg) (v : Byte) (q : PReg) :
    (s.recordPred p v).newPred q = s.newPred q := rfl
@[simp] theorem State.recordPred_byteAt (s : State) (p : PReg) (v : Byte) (b : Nat) :
    (s.recordPred p v).byteAt b = s.byteAt b := rfl
@[simp] theorem State.recordPred_returnAddress (s : State) (p : PReg) (v : Byte) :
    (s.recordPred p v).returnAddress = s.returnAddress := rfl

/-! ### `recordQuad` -/

@[simp] theorem State.recordQuad_regs (s : State) (v : Word) : (s.recordQuad v).regs = s.regs := rfl
@[simp] theorem State.recordQuad_preds (s : State) (v : Word) : (s.recordQuad v).preds = s.preds := rfl
@[simp] theorem State.recordQuad_pc (s : State) (v : Word) : (s.recordQuad v).pc = s.pc := rfl
@[simp] theorem State.recordQuad_mem (s : State) (v : Word) : (s.recordQuad v).mem = s.mem := rfl
@[simp] theorem State.recordQuad_resv (s : State) (v : Word) : (s.recordQuad v).resv = s.resv := rfl
@[simp] theorem State.recordQuad_launch (s : State) (v : Word) : (s.recordQuad v).launch = s.launch := rfl
@[simp] theorem State.recordQuad_tick (s : State) (v : Word) : (s.recordQuad v).tick = s.tick := rfl
@[simp] theorem State.recordQuad_pkt_size (s : State) (v : Word) : (s.recordQuad v).pkt.size = s.pkt.size := rfl
@[simp] theorem State.recordQuad_pkt_newP (s : State) (v : Word) : (s.recordQuad v).pkt.newP = s.pkt.newP := rfl
@[simp] theorem State.recordQuad_regs_recorded (s : State) (v : Word) :
    (s.recordQuad v).pkt.effects.regs = s.pkt.effects.regs := rfl
@[simp] theorem State.recordQuad_preds_recorded (s : State) (v : Word) :
    (s.recordQuad v).pkt.effects.preds =
      (((s.pkt.effects.preds ++ [(0, v.extractLsb' 0 8)]) ++ [(1, v.extractLsb' 8 8)]) ++ [(2, v.extractLsb' 16 8)]) ++
      [(3, v.extractLsb' 24 8)] := rfl
@[simp] theorem State.recordQuad_loads_recorded (s : State) (v : Word) :
    (s.recordQuad v).pkt.effects.loads = s.pkt.effects.loads := rfl
@[simp] theorem State.recordQuad_stores_recorded (s : State) (v : Word) :
    (s.recordQuad v).pkt.effects.stores = s.pkt.effects.stores := rfl
@[simp] theorem State.recordQuad_target_recorded (s : State) (v : Word) :
    (s.recordQuad v).pkt.effects.target = s.pkt.effects.target := rfl
@[simp] theorem State.recordQuad_clearsResv_recorded (s : State) (v : Word) :
    (s.recordQuad v).pkt.effects.clearsResv =
      s.pkt.effects.clearsResv := rfl
@[simp] theorem State.recordQuad_reg (s : State) (v : Word) (q : GReg) : (s.recordQuad v).reg q = s.reg q := rfl
@[simp] theorem State.recordQuad_pair (s : State) (v : Word) (q : PairReg) : (s.recordQuad v).pair q = s.pair q := rfl
@[simp] theorem State.recordQuad_pred (s : State) (v : Word) (q : PReg) : (s.recordQuad v).pred q = s.pred q := rfl
@[simp] theorem State.recordQuad_quad (s : State) (v : Word) : (s.recordQuad v).quad = s.quad := rfl
@[simp] theorem State.recordQuad_newPred (s : State) (v : Word) (q : PReg) :
    (s.recordQuad v).newPred q = s.newPred q := rfl
@[simp] theorem State.recordQuad_byteAt (s : State) (v : Word) (b : Nat) :
    (s.recordQuad v).byteAt b = s.byteAt b := rfl
@[simp] theorem State.recordQuad_returnAddress (s : State) (v : Word) :
    (s.recordQuad v).returnAddress = s.returnAddress := rfl

/-! ### `recordLoad` -/

@[simp] theorem State.recordLoad_regs (s : State) (a : Word) (n : Nat) : (s.recordLoad a n).regs = s.regs := rfl
@[simp] theorem State.recordLoad_preds (s : State) (a : Word) (n : Nat) : (s.recordLoad a n).preds = s.preds := rfl
@[simp] theorem State.recordLoad_pc (s : State) (a : Word) (n : Nat) : (s.recordLoad a n).pc = s.pc := rfl
@[simp] theorem State.recordLoad_mem (s : State) (a : Word) (n : Nat) : (s.recordLoad a n).mem = s.mem := rfl
@[simp] theorem State.recordLoad_resv (s : State) (a : Word) (n : Nat) : (s.recordLoad a n).resv = s.resv := rfl
@[simp] theorem State.recordLoad_launch (s : State) (a : Word) (n : Nat) : (s.recordLoad a n).launch = s.launch := rfl
@[simp] theorem State.recordLoad_tick (s : State) (a : Word) (n : Nat) : (s.recordLoad a n).tick = s.tick := rfl
@[simp] theorem State.recordLoad_pkt_size (s : State) (a : Word) (n : Nat) :
    (s.recordLoad a n).pkt.size = s.pkt.size := rfl
@[simp] theorem State.recordLoad_pkt_newP (s : State) (a : Word) (n : Nat) :
    (s.recordLoad a n).pkt.newP = s.pkt.newP := rfl
@[simp] theorem State.recordLoad_regs_recorded (s : State) (a : Word) (n : Nat) :
    (s.recordLoad a n).pkt.effects.regs = s.pkt.effects.regs := rfl
@[simp] theorem State.recordLoad_preds_recorded (s : State) (a : Word) (n : Nat) :
    (s.recordLoad a n).pkt.effects.preds = s.pkt.effects.preds := rfl
@[simp] theorem State.recordLoad_loads_recorded (s : State) (a : Word) (n : Nat) :
    (s.recordLoad a n).pkt.effects.loads =
      s.pkt.effects.loads ++ [{ addr := a, size := n }] := rfl
@[simp] theorem State.recordLoad_stores_recorded (s : State) (a : Word) (n : Nat) :
    (s.recordLoad a n).pkt.effects.stores =
      s.pkt.effects.stores := rfl
@[simp] theorem State.recordLoad_target_recorded (s : State) (a : Word) (n : Nat) :
    (s.recordLoad a n).pkt.effects.target =
      s.pkt.effects.target := rfl
@[simp] theorem State.recordLoad_clearsResv_recorded (s : State) (a : Word) (n : Nat) :
    (s.recordLoad a n).pkt.effects.clearsResv =
      s.pkt.effects.clearsResv := rfl
@[simp] theorem State.recordLoad_reg (s : State) (a : Word) (n : Nat) (q : GReg) :
    (s.recordLoad a n).reg q = s.reg q := rfl
@[simp] theorem State.recordLoad_pair (s : State) (a : Word) (n : Nat) (q : PairReg) :
    (s.recordLoad a n).pair q = s.pair q := rfl
@[simp] theorem State.recordLoad_pred (s : State) (a : Word) (n : Nat) (q : PReg) :
    (s.recordLoad a n).pred q = s.pred q := rfl
@[simp] theorem State.recordLoad_quad (s : State) (a : Word) (n : Nat) : (s.recordLoad a n).quad = s.quad := rfl
@[simp] theorem State.recordLoad_newPred (s : State) (a : Word) (n : Nat) (q : PReg) :
    (s.recordLoad a n).newPred q = s.newPred q := rfl
@[simp] theorem State.recordLoad_byteAt (s : State) (a : Word) (n : Nat) (b : Nat) :
    (s.recordLoad a n).byteAt b = s.byteAt b := rfl
@[simp] theorem State.recordLoad_returnAddress (s : State) (a : Word) (n : Nat) :
    (s.recordLoad a n).returnAddress = s.returnAddress := rfl

/-! ### `recordStore` -/

@[simp] theorem State.recordStore_regs (s : State) (a : Word) (bs : List Byte) :
    (s.recordStore a bs).regs = s.regs := rfl
@[simp] theorem State.recordStore_preds (s : State) (a : Word) (bs : List Byte) :
    (s.recordStore a bs).preds = s.preds := rfl
@[simp] theorem State.recordStore_pc (s : State) (a : Word) (bs : List Byte) : (s.recordStore a bs).pc = s.pc := rfl
@[simp] theorem State.recordStore_mem (s : State) (a : Word) (bs : List Byte) :
    (s.recordStore a bs).mem = s.mem := rfl
@[simp] theorem State.recordStore_resv (s : State) (a : Word) (bs : List Byte) :
    (s.recordStore a bs).resv = s.resv := rfl
@[simp] theorem State.recordStore_launch (s : State) (a : Word) (bs : List Byte) :
    (s.recordStore a bs).launch = s.launch := rfl
@[simp] theorem State.recordStore_tick (s : State) (a : Word) (bs : List Byte) :
    (s.recordStore a bs).tick = s.tick := rfl
@[simp] theorem State.recordStore_pkt_size (s : State) (a : Word) (bs : List Byte) :
    (s.recordStore a bs).pkt.size = s.pkt.size := rfl
@[simp] theorem State.recordStore_pkt_newP (s : State) (a : Word) (bs : List Byte) :
    (s.recordStore a bs).pkt.newP = s.pkt.newP := rfl
@[simp] theorem State.recordStore_regs_recorded (s : State) (a : Word) (bs : List Byte) :
    (s.recordStore a bs).pkt.effects.regs =
      s.pkt.effects.regs := rfl
@[simp] theorem State.recordStore_preds_recorded (s : State) (a : Word) (bs : List Byte) :
    (s.recordStore a bs).pkt.effects.preds =
      s.pkt.effects.preds := rfl
@[simp] theorem State.recordStore_loads_recorded (s : State) (a : Word) (bs : List Byte) :
    (s.recordStore a bs).pkt.effects.loads =
      s.pkt.effects.loads := rfl
@[simp] theorem State.recordStore_stores_recorded (s : State) (a : Word) (bs : List Byte) :
    (s.recordStore a bs).pkt.effects.stores =
      s.pkt.effects.stores ++ [{ addr := a, bytes := bs }] := rfl
@[simp] theorem State.recordStore_target_recorded (s : State) (a : Word) (bs : List Byte) :
    (s.recordStore a bs).pkt.effects.target =
      s.pkt.effects.target := rfl
@[simp] theorem State.recordStore_clearsResv_recorded (s : State) (a : Word) (bs : List Byte) :
    (s.recordStore a bs).pkt.effects.clearsResv =
      s.pkt.effects.clearsResv := rfl
@[simp] theorem State.recordStore_reg (s : State) (a : Word) (bs : List Byte) (q : GReg) :
    (s.recordStore a bs).reg q = s.reg q := rfl
@[simp] theorem State.recordStore_pair (s : State) (a : Word) (bs : List Byte) (q : PairReg) :
    (s.recordStore a bs).pair q = s.pair q := rfl
@[simp] theorem State.recordStore_pred (s : State) (a : Word) (bs : List Byte) (q : PReg) :
    (s.recordStore a bs).pred q = s.pred q := rfl
@[simp] theorem State.recordStore_quad (s : State) (a : Word) (bs : List Byte) :
    (s.recordStore a bs).quad = s.quad := rfl
@[simp] theorem State.recordStore_newPred (s : State) (a : Word) (bs : List Byte) (q : PReg) :
    (s.recordStore a bs).newPred q = s.newPred q := rfl
@[simp] theorem State.recordStore_byteAt (s : State) (a : Word) (bs : List Byte) (b : Nat) :
    (s.recordStore a bs).byteAt b = s.byteAt b := rfl
@[simp] theorem State.recordStore_returnAddress (s : State) (a : Word) (bs : List Byte) :
    (s.recordStore a bs).returnAddress = s.returnAddress := rfl

/-! ### `recordTarget` -/

@[simp] theorem State.recordTarget_regs (s : State) (a : Word) : (s.recordTarget a).regs = s.regs := rfl
@[simp] theorem State.recordTarget_preds (s : State) (a : Word) : (s.recordTarget a).preds = s.preds := rfl
@[simp] theorem State.recordTarget_pc (s : State) (a : Word) : (s.recordTarget a).pc = s.pc := rfl
@[simp] theorem State.recordTarget_mem (s : State) (a : Word) : (s.recordTarget a).mem = s.mem := rfl
@[simp] theorem State.recordTarget_resv (s : State) (a : Word) : (s.recordTarget a).resv = s.resv := rfl
@[simp] theorem State.recordTarget_launch (s : State) (a : Word) : (s.recordTarget a).launch = s.launch := rfl
@[simp] theorem State.recordTarget_tick (s : State) (a : Word) : (s.recordTarget a).tick = s.tick := rfl
@[simp] theorem State.recordTarget_pkt_size (s : State) (a : Word) : (s.recordTarget a).pkt.size = s.pkt.size := rfl
@[simp] theorem State.recordTarget_pkt_newP (s : State) (a : Word) : (s.recordTarget a).pkt.newP = s.pkt.newP := rfl
@[simp] theorem State.recordTarget_regs_recorded (s : State) (a : Word) :
    (s.recordTarget a).pkt.effects.regs = s.pkt.effects.regs := rfl
@[simp] theorem State.recordTarget_preds_recorded (s : State) (a : Word) :
    (s.recordTarget a).pkt.effects.preds = s.pkt.effects.preds := rfl
@[simp] theorem State.recordTarget_loads_recorded (s : State) (a : Word) :
    (s.recordTarget a).pkt.effects.loads = s.pkt.effects.loads := rfl
@[simp] theorem State.recordTarget_stores_recorded (s : State) (a : Word) :
    (s.recordTarget a).pkt.effects.stores = s.pkt.effects.stores := rfl
@[simp] theorem State.recordTarget_target_recorded (s : State) (a : Word) :
    (s.recordTarget a).pkt.effects.target = some a := rfl
@[simp] theorem State.recordTarget_clearsResv_recorded (s : State) (a : Word) :
    (s.recordTarget a).pkt.effects.clearsResv =
      s.pkt.effects.clearsResv := rfl
@[simp] theorem State.recordTarget_reg (s : State) (a : Word) (q : GReg) : (s.recordTarget a).reg q = s.reg q := rfl
@[simp] theorem State.recordTarget_pair (s : State) (a : Word) (q : PairReg) :
    (s.recordTarget a).pair q = s.pair q := rfl
@[simp] theorem State.recordTarget_pred (s : State) (a : Word) (q : PReg) :
    (s.recordTarget a).pred q = s.pred q := rfl
@[simp] theorem State.recordTarget_quad (s : State) (a : Word) : (s.recordTarget a).quad = s.quad := rfl
@[simp] theorem State.recordTarget_newPred (s : State) (a : Word) (q : PReg) :
    (s.recordTarget a).newPred q = s.newPred q := rfl
@[simp] theorem State.recordTarget_byteAt (s : State) (a : Word) (b : Nat) :
    (s.recordTarget a).byteAt b = s.byteAt b := rfl
@[simp] theorem State.recordTarget_returnAddress (s : State) (a : Word) :
    (s.recordTarget a).returnAddress = s.returnAddress := rfl

/-! ### `recordClearResv` -/

@[simp] theorem State.recordClearResv_regs (s : State) : (s.recordClearResv).regs = s.regs := rfl
@[simp] theorem State.recordClearResv_preds (s : State) : (s.recordClearResv).preds = s.preds := rfl
@[simp] theorem State.recordClearResv_pc (s : State) : (s.recordClearResv).pc = s.pc := rfl
@[simp] theorem State.recordClearResv_mem (s : State) : (s.recordClearResv).mem = s.mem := rfl
@[simp] theorem State.recordClearResv_resv (s : State) : (s.recordClearResv).resv = s.resv := rfl
@[simp] theorem State.recordClearResv_launch (s : State) : (s.recordClearResv).launch = s.launch := rfl
@[simp] theorem State.recordClearResv_tick (s : State) : (s.recordClearResv).tick = s.tick := rfl
@[simp] theorem State.recordClearResv_pkt_size (s : State) : (s.recordClearResv).pkt.size = s.pkt.size := rfl
@[simp] theorem State.recordClearResv_pkt_newP (s : State) : (s.recordClearResv).pkt.newP = s.pkt.newP := rfl
@[simp] theorem State.recordClearResv_regs_recorded (s : State) :
    (s.recordClearResv).pkt.effects.regs = s.pkt.effects.regs := rfl
@[simp] theorem State.recordClearResv_preds_recorded (s : State) :
    (s.recordClearResv).pkt.effects.preds = s.pkt.effects.preds := rfl
@[simp] theorem State.recordClearResv_loads_recorded (s : State) :
    (s.recordClearResv).pkt.effects.loads = s.pkt.effects.loads := rfl
@[simp] theorem State.recordClearResv_stores_recorded (s : State) :
    (s.recordClearResv).pkt.effects.stores = s.pkt.effects.stores := rfl
@[simp] theorem State.recordClearResv_target_recorded (s : State) :
    (s.recordClearResv).pkt.effects.target = s.pkt.effects.target := rfl
@[simp] theorem State.recordClearResv_clearsResv_recorded (s : State) :
    (s.recordClearResv).pkt.effects.clearsResv = true := rfl
@[simp] theorem State.recordClearResv_reg (s : State) (q : GReg) : (s.recordClearResv).reg q = s.reg q := rfl
@[simp] theorem State.recordClearResv_pair (s : State) (q : PairReg) : (s.recordClearResv).pair q = s.pair q := rfl
@[simp] theorem State.recordClearResv_pred (s : State) (q : PReg) : (s.recordClearResv).pred q = s.pred q := rfl
@[simp] theorem State.recordClearResv_quad (s : State) : (s.recordClearResv).quad = s.quad := rfl
@[simp] theorem State.recordClearResv_newPred (s : State) (q : PReg) :
    (s.recordClearResv).newPred q = s.newPred q := rfl
@[simp] theorem State.recordClearResv_byteAt (s : State) (b : Nat) : (s.recordClearResv).byteAt b = s.byteAt b := rfl
@[simp] theorem State.recordClearResv_returnAddress (s : State) :
    (s.recordClearResv).returnAddress = s.returnAddress := rfl

/-! ### The whole packet -/

@[simp] theorem State.begin_regs (s : State) (n : Nat) : (s.begin n).regs = s.regs := rfl
@[simp] theorem State.begin_preds (s : State) (n : Nat) : (s.begin n).preds = s.preds := rfl
@[simp] theorem State.begin_pc (s : State) (n : Nat) : (s.begin n).pc = s.pc := rfl
@[simp] theorem State.begin_mem (s : State) (n : Nat) : (s.begin n).mem = s.mem := rfl
@[simp] theorem State.begin_resv (s : State) (n : Nat) : (s.begin n).resv = s.resv := rfl
@[simp] theorem State.begin_launch (s : State) (n : Nat) : (s.begin n).launch = s.launch := rfl
@[simp] theorem State.begin_tick (s : State) (n : Nat) : (s.begin n).tick = s.tick := rfl
@[simp] theorem State.begin_size (s : State) (n : Nat) : (s.begin n).pkt.size = n := rfl
@[simp] theorem State.begin_effects (s : State) (n : Nat) : (s.begin n).pkt.effects = Effects.none := rfl
@[simp] theorem State.begin_reg (s : State) (n : Nat) (q : GReg) : (s.begin n).reg q = s.reg q := rfl
@[simp] theorem State.begin_pair (s : State) (n : Nat) (q : PairReg) : (s.begin n).pair q = s.pair q := rfl
@[simp] theorem State.begin_pred (s : State) (n : Nat) (q : PReg) : (s.begin n).pred q = s.pred q := rfl
@[simp] theorem State.begin_byteAt (s : State) (n : Nat) (b : Nat) : (s.begin n).byteAt b = s.byteAt b := rfl

@[simp] theorem State.generated_regs (s : State) (is : List Instr) : (s.generated is).regs = s.regs := rfl
@[simp] theorem State.generated_preds (s : State) (is : List Instr) : (s.generated is).preds = s.preds := rfl
@[simp] theorem State.generated_pc (s : State) (is : List Instr) : (s.generated is).pc = s.pc := rfl
@[simp] theorem State.generated_mem (s : State) (is : List Instr) : (s.generated is).mem = s.mem := rfl
@[simp] theorem State.generated_resv (s : State) (is : List Instr) : (s.generated is).resv = s.resv := rfl
@[simp] theorem State.generated_launch (s : State) (is : List Instr) : (s.generated is).launch = s.launch := rfl
@[simp] theorem State.generated_tick (s : State) (is : List Instr) : (s.generated is).tick = s.tick := rfl
@[simp] theorem State.generated_size (s : State) (is : List Instr) : (s.generated is).pkt.size = is.length := rfl
@[simp] theorem State.generated_effects (s : State) (is : List Instr) :
    (s.generated is).pkt.effects = Effects.none := rfl
@[simp] theorem State.generated_newP (s : State) (is : List Instr) :
    (s.generated is).pkt.newP = newValues is (s.begin is.length) := rfl
@[simp] theorem State.generated_reg (s : State) (is : List Instr) (q : GReg) : (s.generated is).reg q = s.reg q := rfl
@[simp] theorem State.generated_pair (s : State) (is : List Instr) (q : PairReg) :
    (s.generated is).pair q = s.pair q := rfl
@[simp] theorem State.generated_pred (s : State) (is : List Instr) (q : PReg) :
    (s.generated is).pred q = s.pred q := rfl
@[simp] theorem State.generated_byteAt (s : State) (is : List Instr) (b : Nat) :
    (s.generated is).byteAt b = s.byteAt b := rfl

@[simp] theorem State.commit_regs (s : State) (new : Vector (Option Byte) 4) (e : Effects) (a : Word) :
    (s.commit new e a).regs = commitRegs s.regs e.regs := rfl
@[simp] theorem State.commit_preds (s : State) (new : Vector (Option Byte) 4) (e : Effects) (a : Word) :
    (s.commit new e a).preds = commitPreds s.preds new := rfl
@[simp] theorem State.commit_pc (s : State) (new : Vector (Option Byte) 4) (e : Effects) (a : Word) :
    (s.commit new e a).pc = a := rfl
@[simp] theorem State.commit_mem (s : State) (new : Vector (Option Byte) 4) (e : Effects) (a : Word) :
    (s.commit new e a).mem = commitStores s.mem e.stores := rfl
@[simp] theorem State.commit_resv (s : State) (new : Vector (Option Byte) 4) (e : Effects) (a : Word) :
    (s.commit new e a).resv = if e.clearsResv then none else s.resv := rfl
@[simp] theorem State.commit_pkt (s : State) (new : Vector (Option Byte) 4) (e : Effects) (a : Word) :
    (s.commit new e a).pkt = PacketLocal.none := rfl
@[simp] theorem State.commit_launch (s : State) (new : Vector (Option Byte) 4) (e : Effects) (a : Word) :
    (s.commit new e a).launch = s.launch := rfl
@[simp] theorem State.commit_tick (s : State) (new : Vector (Option Byte) 4) (e : Effects) (a : Word) :
    (s.commit new e a).tick = s.tick + 1 := rfl

/-! ### No effects -/

@[simp] theorem Effects.none_regs : Effects.none.regs = [] := rfl
@[simp] theorem Effects.none_preds : Effects.none.preds = [] := rfl
@[simp] theorem Effects.none_loads : Effects.none.loads = [] := rfl
@[simp] theorem Effects.none_stores : Effects.none.stores = [] := rfl
@[simp] theorem Effects.none_target : Effects.none.target = Option.none := rfl
@[simp] theorem Effects.none_clearsResv : Effects.none.clearsResv = false := rfl
@[simp] theorem Effects.merge_regs (a b : Effects) : (a.merge b).regs = a.regs ++ b.regs := rfl
@[simp] theorem Effects.merge_preds (a b : Effects) : (a.merge b).preds = a.preds ++ b.preds := rfl
@[simp] theorem Effects.merge_loads (a b : Effects) : (a.merge b).loads = a.loads ++ b.loads := rfl
@[simp] theorem Effects.merge_stores (a b : Effects) : (a.merge b).stores = a.stores ++ b.stores := rfl
@[simp] theorem Effects.merge_target (a b : Effects) : (a.merge b).target = a.target.or b.target := rfl
@[simp] theorem Effects.merge_clearsResv (a b : Effects) :
    (a.merge b).clearsResv = (a.clearsResv || b.clearsResv) := rfl

/-! ### Reset -/

@[simp] theorem State.reset_resv : State.reset.resv = none := rfl
@[simp] theorem State.reset_mem : State.reset.mem = [] := rfl
@[simp] theorem State.reset_pkt : State.reset.pkt = PacketLocal.none := rfl
@[simp] theorem State.reset_launch : State.reset.launch = Launch.default := rfl

end Sys2Proof.Machine
end

