-- ==== Sys2Proof/Laws/Memory.lean ====
section
/-!
SUPPORT. The laws of the memory: what a read finds after a write, that every operation keeps the canonical form, and
that equal contents are equal data.
-/

namespace Sys2Proof.Machine

@[simp] theorem Memory.find_nil (a : Nat) : Memory.find [] a = none := rfl

theorem Memory.find_cons (x : Nat) (v : Byte) (m : Memory) (a : Nat) :
    Memory.find ((x, v) :: m) a = if a = x then some v else m.find a := rfl

/-- What a read finds after one byte was written. -/
theorem Memory.find_put (m : Memory) (a : Nat) (v : Byte) (b : Nat) :
    (m.put a v).find b = if b = a then some v else m.find b := by
  induction m with
  | nil => rfl
  | cons e m ih =>
    obtain ⟨x, w⟩ := e
    simp only [Memory.put]
    split
    · simp only [Memory.find_cons]
    · split
      · subst_vars
        simp only [Memory.find_cons]
        split <;> simp_all
      · simp only [Memory.find_cons, ih]
        split <;> split <;> simp_all

/-- What a read finds after consecutive bytes were written. -/
theorem Memory.find_putBytes (m : Memory) (a : Nat) (vs : List Byte) (b : Nat) :
    (m.putBytes a vs).find b = if a ≤ b ∧ b < a + vs.length then vs[b - a]? else m.find b := by
  induction vs generalizing m a with
  | nil => simp only [Memory.putBytes, List.length_nil]; rw [if_neg (by omega)]
  | cons v vs ih =>
    simp only [Memory.putBytes, ih, Memory.find_put, List.length_cons]
    by_cases h : b = a
    · subst h
      rw [if_neg (by omega), if_pos rfl, if_pos (by omega)]
      simp
    · by_cases h2 : a + 1 ≤ b ∧ b < a + 1 + vs.length
      · rw [if_pos h2, if_pos (by omega), show b - a = (b - (a + 1)) + 1 by omega, List.getElem?_cons_succ]
      · rw [if_neg h2, if_neg h, if_neg (by omega)]

/-- The first address of a canonical memory is below `2^32`. -/
theorem Memory.wf_head (x : Nat) (v : Byte) (m : Memory) (h : Memory.wf ((x, v) :: m) = true) : x < 2 ^ 32 := by
  induction m generalizing x v with
  | nil => simpa only [Memory.wf, decide_eq_true_eq] using h
  | cons e m ih =>
    obtain ⟨y, w⟩ := e
    simp only [Memory.wf, Bool.and_eq_true, decide_eq_true_eq] at h
    exact lt_trans h.1 (ih y w h.2)

/-- The canonical form, one entry at a time. -/
theorem Memory.wf_cons (x : Nat) (v : Byte) (m : Memory) :
    Memory.wf ((x, v) :: m) = true ↔ x < 2 ^ 32 ∧ (∀ e ∈ m.head?, x < e.1) ∧ m.wf = true := by
  cases m with
  | nil => simp [Memory.wf]
  | cons e m =>
    obtain ⟨y, w⟩ := e
    simp only [Memory.wf, Bool.and_eq_true, decide_eq_true_eq, List.head?_cons, Option.mem_some_iff, forall_eq']
    constructor
    · rintro ⟨h, hm⟩
      exact ⟨lt_trans h (Memory.wf_head y w m hm), h, hm⟩
    · rintro ⟨_, h, hm⟩
      exact ⟨h, hm⟩

/-- The first entry after a write: the written one or the old first one. -/
theorem Memory.head_put (m : Memory) (a : Nat) (v : Byte) (e : Host.Cell) (h : e ∈ (m.put a v).head?) :
    e.1 = a ∨ e ∈ m.head? := by
  cases m with
  | nil => simp only [Memory.put, List.head?_cons, Option.mem_some_iff] at h; subst h; exact .inl rfl
  | cons x m =>
    obtain ⟨y, w⟩ := x
    simp only [Memory.put] at h
    split at h
    · simp only [List.head?_cons, Option.mem_some_iff] at h; subst h; exact .inl rfl
    · split at h
      · simp only [List.head?_cons, Option.mem_some_iff] at h; subst h; exact .inl rfl
      · simp only [List.head?_cons, Option.mem_some_iff] at h; subst h; exact .inr rfl

/-- Writing one byte keeps the canonical form. -/
theorem Memory.wf_put (m : Memory) (a : Nat) (v : Byte) (ha : a < 2 ^ 32) (hm : m.wf = true) :
    (m.put a v).wf = true := by
  induction m with
  | nil => simpa [Memory.put, Memory.wf] using ha
  | cons e m ih =>
    obtain ⟨x, w⟩ := e
    have hx := (Memory.wf_cons x w m).1 hm
    simp only [Memory.put]
    split
    · rw [Memory.wf_cons]
      refine ⟨ha, ?_, hm⟩
      simpa using ‹a < x›
    · split
      · subst_vars
        rw [Memory.wf_cons]
        exact hx
      · rw [Memory.wf_cons]
        refine ⟨hx.1, ?_, ih hx.2.2⟩
        intro e he
        rcases Memory.head_put m a v e he with h | h
        · omega
        · exact hx.2.1 e h

/-- Writing consecutive bytes below `2^32` keeps the canonical form. -/
theorem Memory.wf_putBytes (m : Memory) (a : Nat) (vs : List Byte) (ha : a + vs.length ≤ 2 ^ 32) (hm : m.wf = true) :
    (m.putBytes a vs).wf = true := by
  induction vs generalizing m a with
  | nil => exact hm
  | cons v vs ih =>
    simp only [List.length_cons] at ha
    exact ih _ _ (by omega) (Memory.wf_put m a v (by omega) hm)

/-- The commit of stores that lie below `2^32` keeps the canonical form. -/
theorem wf_commitStores (m : Memory) (stores : List Store)
    (hs : ∀ x ∈ stores, x.addr.toNat + x.bytes.length ≤ 2 ^ 32) (hm : m.wf = true) :
    (commitStores m stores).wf = true := by
  induction stores generalizing m with
  | nil => exact hm
  | cons x stores ih =>
    exact ih _ (fun y hy => hs y (List.mem_cons_of_mem _ hy))
      (Memory.wf_putBytes m _ _ (hs x List.mem_cons_self) hm)

/-- An address below every entry of a canonical memory is not listed. -/
theorem Memory.find_below (m : Memory) (hm : m.wf = true) (a : Nat) (ha : ∀ e ∈ m.head?, a < e.1) :
    m.find a = none := by
  induction m with
  | nil => rfl
  | cons e m ih =>
    obtain ⟨x, w⟩ := e
    have hx := (Memory.wf_cons x w m).1 hm
    have hax : a < x := ha (x, w) rfl
    rw [Memory.find_cons, if_neg (by omega)]
    exact ih hx.2.2 fun e he => lt_trans hax (hx.2.1 e he)

/-- Canonical memories with equal contents are equal. -/
theorem Memory.ext_find (m m' : Memory) (hm : m.wf = true) (hm' : m'.wf = true) (h : ∀ a, m.find a = m'.find a) :
    m = m' := by
  induction m generalizing m' with
  | nil =>
    cases m' with
    | nil => rfl
    | cons e m' => have := h e.1; simp [Memory.find] at this
  | cons e m ih =>
    obtain ⟨x, w⟩ := e
    have hx := (Memory.wf_cons x w m).1 hm
    cases m' with
    | nil => have := h x; simp [Memory.find] at this
    | cons e' m' =>
      obtain ⟨y, u⟩ := e'
      have hy := (Memory.wf_cons y u m').1 hm'
      have hxy : x = y := by
        rcases Nat.lt_trichotomy x y with hlt | heq | hlt
        · have h1 := h x
          rw [Memory.find_cons, if_pos rfl, Memory.find_cons, if_neg (by omega),
            Memory.find_below m' hy.2.2 x fun e he => lt_trans hlt (hy.2.1 e he)] at h1
          cases h1
        · exact heq
        · have h1 := h y
          rw [Memory.find_cons, if_neg (by omega), Memory.find_cons, if_pos rfl,
            Memory.find_below m hx.2.2 y fun e he => lt_trans hlt (hx.2.1 e he)] at h1
          cases h1
      subst hxy
      have hwu : w = u := by have h1 := h x; simpa [Memory.find] using h1
      subst hwu
      congr 1
      refine ih m' hx.2.2 hy.2.2 fun a => ?_
      by_cases ha : a = x
      · subst ha
        rw [Memory.find_below m hx.2.2 a hx.2.1, Memory.find_below m' hy.2.2 a hy.2.1]
      · have h1 := h a
        rwa [Memory.find_cons, if_neg ha, Memory.find_cons, if_neg ha] at h1

/-- The memory after reset is in canonical form. -/
theorem reset_mem_wf : State.reset.mem.wf = true := rfl

@[simp] theorem littleBytes_length {w : Nat} (v : BitVec w) (n : Nat) : (littleBytes v n).length = n := by
  simp [littleBytes]

/-- The `i`-th byte that a store writes (R32). -/
theorem littleBytes_get {w : Nat} (v : BitVec w) (n i : Nat) (h : i < n) :
    (littleBytes v n)[i]? = some (v.extractLsb' (8 * i) 8) := by
  simp [littleBytes, h]

end Sys2Proof.Machine
end

