-- ==== Sys2Proof/Laws/Ops.lean ====
section
/-!
SUPPORT. For each shared operation, what it can do, said once: guards, accesses, store conditionals, labels, and the
phases of the packet step. Later proofs cite these lemmas and do not unfold the operations.
-/

namespace Sys2Proof.Machine

/-! ### Values read -/

/-- The value read does not depend on what has been recorded. -/
@[simp] theorem State.valueAt_withEffects (s : State) (e : Effects) (a n : Nat) :
    (s.withEffects e).valueAt a n = s.valueAt a n := by
  induction n generalizing a with
  | zero => rfl
  | succ n ih => simp only [State.valueAt, State.withEffects_byteAt, ih]

@[simp] theorem State.load_withEffects (s : State) (e : Effects) (a : Word) (n w : Nat) :
    (s.withEffects e).load a n w = s.load a n w := by
  simp only [State.load, State.valueAt_withEffects]

@[simp] theorem State.valueAt_generated (s : State) (is : List Instr) (a n : Nat) :
    (s.generated is).valueAt a n = s.valueAt a n := by
  induction n generalizing a with
  | zero => rfl
  | succ n ih => simp only [State.valueAt, State.generated_byteAt, ih]

@[simp] theorem State.load_generated (s : State) (is : List Instr) (a : Word) (n w : Nat) :
    (s.generated is).load a n w = s.load a n w := by
  simp only [State.load, State.valueAt_generated]

@[simp] theorem State.permits_withEffects (s : State) (e : Effects) (a : Word) (n : Nat) (k : AccessKind) :
    (s.withEffects e).permits a n k = s.permits a n k := rfl

@[simp] theorem State.permits_generated (s : State) (is : List Instr) (a : Word) (n : Nat) (k : AccessKind) :
    (s.generated is).permits a n k = s.permits a n k := rfl

/-! ### Guards (R200, R201) -/

/-- A form whose guard is true does what the operation does. -/
theorem guarded_true {g : Guard} {s : State} (op : State → Result) (h : s.guardValue g = some true) :
    guarded g op s = op s := by
  simp only [guarded, h]

/-- A form whose guard is false leaves everything as it is. -/
theorem guarded_false {g : Guard} {s : State} (op : State → Result) (h : s.guardValue g = some false) :
    guarded g op s = .next s := by
  simp only [guarded, h]

/-- A form whose `.new` guard has no value is refused (R311). -/
theorem guarded_none {g : Guard} {s : State} (op : State → Result) (h : s.guardValue g = none) :
    guarded g op s = .refused .undefinedNewPredicate := by
  simp only [guarded, h]

/-- When a guarded form has a next state. -/
theorem guarded_next {g : Guard} {op : State → Result} {s t : State} (h : guarded g op s = .next t) :
    (s.guardValue g = some true ∧ op s = .next t) ∨ (s.guardValue g = some false ∧ t = s) := by
  unfold guarded at h
  split at h
  · exact .inl ⟨‹_›, h⟩
  · exact .inr ⟨‹_›, by cases h; rfl⟩
  · cases h

@[simp] theorem guardValue_ifT (s : State) (pu : PReg) : s.guardValue (.ifT pu) = some (lsb (s.pred pu)) := rfl
@[simp] theorem guardValue_ifF (s : State) (pu : PReg) : s.guardValue (.ifF pu) = some (!lsb (s.pred pu)) := rfl
@[simp] theorem guardValue_ifTnew (s : State) (pu : PReg) : s.guardValue (.ifTnew pu) = (s.newPred pu).map lsb := rfl
@[simp] theorem guardValue_ifFnew (s : State) (pu : PReg) :
    s.guardValue (.ifFnew pu) = (s.newPred pu).map fun v => !lsb v := rfl

/-! ### Accesses (R33, R34) -/

/-- An access that passes both checks is made. -/
theorem checked_ok {s : State} {a : Word} {n : Nat} {k : AccessKind} (access : State → Result)
    (h : aligned a n = true) (hp : s.permits a n k = true) : checked a n k access s = access s := by
  simp only [checked, h, hp, if_true]

/-- A misaligned access faults, whatever its permission. -/
theorem checked_misaligned {s : State} {a : Word} {n : Nat} {k : AccessKind} (access : State → Result)
    (h : aligned a n = false) : checked a n k access s = .fault (.misalignedAccess a n) := by
  simp [checked, h]

/-- An aligned access that is not permitted raises the exception. -/
theorem checked_denied {s : State} {a : Word} {n : Nat} {k : AccessKind} (access : State → Result)
    (h : aligned a n = true) (hp : s.permits a n k = false) :
    checked a n k access s = .fault (.raised (.memoryPermissionViolation a k)) := by
  simp [checked, h, hp, raise]

/-- A load whose access passes both checks has its effect. -/
theorem loading_ok {s : State} {a : Word} {n : Nat} (k : State → State) (h : AccessOk s a n .read) :
    loading a n k s = .next (k (s.recordLoad a n)) := by
  unfold loading; exact checked_ok _ h.1 h.2

/-- A store whose access passes both checks is recorded. -/
theorem storing_ok {w : Nat} {s : State} {a : Word} {n : Nat} (v : BitVec w) (h : AccessOk s a n .write) :
    storing a n v s = .next (s.recordStore a (littleBytes v n)) := by
  unfold storing; exact checked_ok _ h.1 h.2

/-- A store conditional whose access passes both checks stores or not, as `scSucceeds` says (R40). -/
theorem storeConditional_ok {w : Nat} {s : State} {a : Word} {z : ResvSize} (v : BitVec w) (pd : PReg)
    (h : AccessOk s a z.bytes .write) :
    storeConditional a z v pd s =
      if s.scSucceeds a z pd then
        .next (((s.recordStore a (littleBytes v z.bytes)).recordClearResv).recordPred pd 0xFF#8)
      else .next (s.recordClearResv.recordPred pd 0x00#8) := by
  unfold storeConditional; exact checked_ok _ h.1 h.2

/-- An instruction with a label that the program defines goes on with its address (R210). -/
theorem withLabel_ok {s : State} {name : Label} {a : Word} (k : Word → State → Result)
    (h : s.launch.labelAddr name = some a) : withLabel name k s = k a s := by
  simp only [withLabel, h]

/-- When an access has a next state. -/
theorem checked_next {s t : State} {a : Word} {n : Nat} {k : AccessKind} {access : State → Result}
    (h : checked a n k access s = .next t) : aligned a n = true ∧ s.permits a n k = true ∧ access s = .next t := by
  unfold checked at h
  split at h
  · split at h
    · exact ⟨‹_›, ‹_›, h⟩
    · cases h
  · cases h

/-- When a load has a next state, and which. -/
theorem loading_next {s t : State} {a : Word} {n : Nat} {k : State → State} (h : loading a n k s = .next t) :
    aligned a n = true ∧ s.permits a n .read = true ∧ t = k (s.recordLoad a n) := by
  obtain ⟨h1, h2, h3⟩ := checked_next h
  exact ⟨h1, h2, by cases h3; rfl⟩

/-- When a store has a next state, and which. -/
theorem storing_next {w : Nat} {s t : State} {a : Word} {n : Nat} {v : BitVec w} (h : storing a n v s = .next t) :
    aligned a n = true ∧ s.permits a n .write = true ∧ t = s.recordStore a (littleBytes v n) := by
  obtain ⟨h1, h2, h3⟩ := checked_next h
  exact ⟨h1, h2, by cases h3; rfl⟩

/-- When a store conditional has a next state, and which (R40). -/
theorem storeConditional_next {w : Nat} {s t : State} {a : Word} {z : ResvSize} {v : BitVec w} {pd : PReg}
    (h : storeConditional a z v pd s = .next t) :
    aligned a z.bytes = true ∧ s.permits a z.bytes .write = true ∧
      ((s.scSucceeds a z pd = true ∧
          t = ((s.recordStore a (littleBytes v z.bytes)).recordClearResv).recordPred pd 0xFF#8) ∨
        (s.scSucceeds a z pd = false ∧ t = s.recordClearResv.recordPred pd 0x00#8)) := by
  obtain ⟨h1, h2, h3⟩ := checked_next h
  refine ⟨h1, h2, ?_⟩
  split at h3
  · exact .inl ⟨‹_›, by cases h3; rfl⟩
  · exact .inr ⟨(Bool.not_eq_true _).mp ‹_›, by cases h3; rfl⟩

/-- When an instruction with a label has a next state. -/
theorem withLabel_next {s t : State} {name : Label} {k : Word → State → Result} (h : withLabel name k s = .next t) :
    ∃ a, s.launch.labelAddr name = some a ∧ k a s = .next t := by
  unfold withLabel at h
  split at h
  · exact ⟨_, ‹_›, h⟩
  · cases h

/-- The bytes of an aligned access lie below `2^32`. -/
theorem aligned_bound {a : Word} {n : Nat} (h : aligned a n = true) : a.toNat + n ≤ 2 ^ 32 := by
  simp only [aligned, Bool.and_eq_true, decide_eq_true_eq] at h
  exact h.2

/-! ### The packet step (R300) -/

/-- When a step has a next state. -/
theorem step_next {s t : State} (h : step s = .next t) :
    ∃ p is, s.launch.haltPc ≠ some s.pc ∧ s.launch.packetAt s.pc = some p ∧ s.launch.admitted p = .ok is ∧
      s.runPacket is = .next t := by
  unfold step packetStep at h
  split at h
  · cases h
  · split at h
    · cases h
    · split at h
      · cases h
      · exact ⟨_, _, ‹_›, ‹_›, ‹_›, h⟩

/-- No outcome that `firstStop` picks is a next state. -/
theorem firstStop_not_next {os : List Result} {o : Result} (h : firstStop os = some o) (t : State) : o ≠ .next t := by
  intro ho
  subst ho
  unfold firstStop at h
  split at h
  · have := List.find?_some ‹_›; injection h with h; subst h; cases this
  · split at h
    · have := List.find?_some ‹_›; injection h with h; subst h; cases this
    · have := List.find?_some h; cases this

/-- `firstStop` picks nothing exactly when every instruction has a next state. -/
theorem firstStop_none {os : List Result} : firstStop os = none ↔ ∀ o ∈ os, ∃ t, o = .next t := by
  constructor
  · intro h o ho
    unfold firstStop at h
    split at h
    · cases h
    · split at h
      · cases h
      · rename_i h1 _ h2
        rw [List.find?_eq_none] at h h1 h2
        cases o with
        | next t => exact ⟨t, rfl⟩
        | fault f =>
          cases f with
          | raised e => exact absurd rfl (h2 _ ho)
          | misalignedAccess a n => exact absurd rfl (h1 _ ho)
        | refused r => exact absurd rfl (h _ ho)
  · intro h
    have h0 : ∀ p : Result → Bool, (∀ t, p (.next t) = false) → os.find? p = none := by
      intro p hp
      rw [List.find?_eq_none]
      intro o ho
      obtain ⟨t, rfl⟩ := h o ho
      simp [hp]
    unfold firstStop
    rw [h0 isModelFault fun _ => rfl, h0 isRaise fun _ => rfl, h0 isRefusal fun _ => rfl]

/-- When the phases 1 to 5 have a next state: every instruction has one, no general register is written twice, no
access overlaps, and the next pc exists. -/
theorem runPacket_next {s t : State} {is : List Instr} (h : s.runPacket is = .next t) :
    (∀ i ∈ is, ∃ u, exec i (s.generated is) = .next u) ∧
      duplicate (merged (outcomes is (s.generated is))).regs = none ∧
      (merged (outcomes is (s.generated is))).overlapping = false ∧
      ∃ pc, s.nextPc is.length (merged (outcomes is (s.generated is))) = some pc ∧
        t = s.commit (s.generated is).pkt.newP (merged (outcomes is (s.generated is))) pc := by
  unfold State.runPacket at h
  split at h
  · exact absurd h (firstStop_not_next ‹_› t)
  · rename_i hf
    rw [firstStop_none] at hf
    refine ⟨fun i hi => hf _ (List.mem_map_of_mem hi), ?_⟩
    unfold State.finish at h
    split at h
    · cases h
    · split at h
      · cases h
      · split at h
        · cases h
        · refine ⟨‹_›, (Bool.not_eq_true _).mp ‹_›, _, ‹_›, ?_⟩
          cases h; rfl

/-- Membership in the merged effects. -/
theorem mem_merged_regs {os : List Result} {w : GReg × Word} :
    w ∈ (merged os).regs ↔ ∃ o ∈ os, w ∈ (effectsOf o).regs := by
  induction os with
  | nil => simp [merged]
  | cons o os ih =>
    simp only [merged] at ih
    simp [merged, ih]

theorem mem_merged_stores {os : List Result} {x : Store} :
    x ∈ (merged os).stores ↔ ∃ o ∈ os, x ∈ (effectsOf o).stores := by
  induction os with
  | nil => simp [merged]
  | cons o os ih =>
    simp only [merged] at ih
    simp [merged, ih]

theorem mem_merged_loads {os : List Result} {x : Load} :
    x ∈ (merged os).loads ↔ ∃ o ∈ os, x ∈ (effectsOf o).loads := by
  induction os with
  | nil => simp [merged]
  | cons o os ih =>
    simp only [merged] at ih
    simp [merged, ih]

theorem merged_clearsResv {os : List Result} :
    (merged os).clearsResv = true ↔ ∃ o ∈ os, (effectsOf o).clearsResv = true := by
  induction os with
  | nil => simp [merged]
  | cons o os ih =>
    simp only [merged] at ih
    simp [merged, ih]

/-- Without an executed transfer there is no target. -/
theorem merged_target_none {os : List Result} (h : ∀ o ∈ os, (effectsOf o).target = none) :
    (merged os).target = none := by
  induction os with
  | nil => rfl
  | cons o os ih =>
    have := ih fun o' h' => h o' (List.mem_cons_of_mem _ h')
    simp only [merged] at this
    simp [merged, h o List.mem_cons_self, this]

/-- A register that no committed write names keeps its value. -/
theorem commitRegs_other {regs : Vector Word 32} {ws : List (GReg × Word)} {r : GReg} (h : ∀ w ∈ ws, w.1 ≠ r) :
    (commitRegs regs ws)[r.val] = regs[r.val] := by
  induction ws generalizing regs with
  | nil => rfl
  | cons w ws ih =>
    simp only [commitRegs, List.foldl_cons] at *
    rw [ih fun x hx => h x (List.mem_cons_of_mem _ hx)]
    exact Vector.getElem_set_ne _ _ fun e => h w List.mem_cons_self (Fin.ext e)

/-- A register that exactly one committed write names gets its value. -/
theorem commitRegs_written {regs : Vector Word 32} {ws : List (GReg × Word)} {r : GReg} {v : Word}
    (hd : duplicate ws = none) (h : (r, v) ∈ ws) : (commitRegs regs ws)[r.val] = v := by
  induction ws generalizing regs with
  | nil => cases h
  | cons w ws ih =>
    obtain ⟨q, u⟩ := w
    simp only [duplicate] at hd
    split at hd
    · cases hd
    · rename_i hq
      have hq' : ∀ x ∈ ws, x.1 ≠ q := fun x hx e =>
        hq (List.any_eq_true.2 ⟨x, hx, decide_eq_true e⟩)
      rcases List.mem_cons.1 h with h | h
      · injection h with h1 h2
        subst h1 h2
        have := @commitRegs_other (regs.set r.val v) ws r hq'
        simp only [commitRegs, List.foldl_cons] at *
        rw [this]
        exact Vector.getElem_set_self _
      · have := @ih (regs.set q.val u) hd h
        simpa only [commitRegs, List.foldl_cons] using this

/-- The committed predicates. -/
theorem commitPreds_get (preds : Vector Byte 4) (new : Vector (Option Byte) 4) (d : PReg) :
    (commitPreds preds new)[d.val] = new[d.val].getD preds[d.val] := by
  simp [commitPreds]

/-- The newly generated value of a predicate register. -/
theorem newValues_get (is : List Instr) (s : State) (d : PReg) :
    (newValues is s)[d.val] = combined (predResults is s) d := by
  simp [newValues]

end Sys2Proof.Machine
end

