-- ==== Sys2Proof/Laws/Exec.lean ====
section
/-!
SUPPORT. What an instruction may do to the effects of its packet, by the part that it plays in it (`Role`), and what it
leaves of the rest of the state: one lemma for all instructions, which the proofs about steps cite.
-/

namespace Sys2Proof.Machine

/-- What an instruction of a given role may add to the effects. -/
structure Allowed (r : Role) (old new : Effects) : Prop where
  regs : ∃ ws, new.regs = old.regs ++ ws ∧ ∀ w ∈ ws, w.1 ∈ r.regs
  preds : ∃ ps, new.preds = old.preds ++ ps ∧ ∀ p ∈ ps, p.1 ∈ r.preds
  loads : ∃ ls, new.loads = old.loads ++ ls ∧ (r.memory = false → ls = [])
  stores : ∃ xs, new.stores = old.stores ++ xs ∧ (r.memory = false → xs = []) ∧
    ∀ x ∈ xs, x.addr.toNat + x.bytes.length ≤ 2 ^ 32
  target : r.control = false → new.target = old.target
  clearsResv : new.clearsResv = old.clearsResv ∨ (r.memory = true ∧ r.preds ≠ [])

theorem Allowed.refl (r : Role) (e : Effects) : Allowed r e e :=
  ⟨⟨[], by simp⟩, ⟨[], by simp⟩, ⟨[], by simp⟩, ⟨[], by simp⟩, fun _ => rfl, .inl rfl⟩

theorem Allowed.trans {r : Role} {a b c : Effects} (h : Allowed r a b) (k : Allowed r b c) : Allowed r a c := by
  obtain ⟨⟨w, hw, hw'⟩, ⟨p, hp, hp'⟩, ⟨l, hl, hl'⟩, ⟨x, hx, hx', hx''⟩, ht, hc⟩ := h
  obtain ⟨⟨w2, kw, kw'⟩, ⟨p2, kp, kp'⟩, ⟨l2, kl, kl'⟩, ⟨x2, kx, kx', kx''⟩, kt, kc⟩ := k
  refine ⟨⟨w ++ w2, by rw [kw, hw, List.append_assoc], ?_⟩, ⟨p ++ p2, by rw [kp, hp, List.append_assoc], ?_⟩,
    ⟨l ++ l2, by rw [kl, hl, List.append_assoc], ?_⟩, ⟨x ++ x2, by rw [kx, hx, List.append_assoc], ?_, ?_⟩, ?_, ?_⟩
  · intro y hy; rcases List.mem_append.1 hy with h | h; exacts [hw' y h, kw' y h]
  · intro y hy; rcases List.mem_append.1 hy with h | h; exacts [hp' y h, kp' y h]
  · intro h; rw [hl' h, kl' h, List.append_nil]
  · intro h; rw [hx' h, kx' h, List.append_nil]
  · intro y hy; rcases List.mem_append.1 hy with h | h; exacts [hx'' y h, kx'' y h]
  · intro h; rw [kt h, ht h]
  · rcases kc with kc | kc
    · rcases hc with hc | hc
      · exact .inl (kc.trans hc)
      · exact .inr hc
    · exact .inr kc

/-! ### One record -/

theorem allowed_recordReg {r : Role} {d : GReg} (h : d ∈ r.regs) (s : State) (v : Word) :
    Allowed r s.pkt.effects (s.recordReg d v).pkt.effects :=
  ⟨⟨[(d, v)], by simpa using h⟩, ⟨[], by simp⟩, ⟨[], by simp⟩, ⟨[], by simp⟩, fun _ => rfl, .inl rfl⟩

theorem allowed_recordPred {r : Role} {d : PReg} (h : d ∈ r.preds) (s : State) (v : Byte) :
    Allowed r s.pkt.effects (s.recordPred d v).pkt.effects :=
  ⟨⟨[], by simp⟩, ⟨[(d, v)], by simpa using h⟩, ⟨[], by simp⟩, ⟨[], by simp⟩, fun _ => rfl, .inl rfl⟩

theorem allowed_recordLoad {r : Role} (h : r.memory = true) (s : State) (a : Word) (n : Nat) :
    Allowed r s.pkt.effects (s.recordLoad a n).pkt.effects :=
  ⟨⟨[], by simp⟩, ⟨[], by simp⟩, ⟨[_], rfl, fun h' => by rw [h] at h'; cases h'⟩, ⟨[], by simp⟩, fun _ => rfl,
    .inl rfl⟩

theorem allowed_recordStore {r : Role} (h : r.memory = true) (s : State) (a : Word) (bs : List Byte)
    (hb : a.toNat + bs.length ≤ 2 ^ 32) : Allowed r s.pkt.effects (s.recordStore a bs).pkt.effects :=
  ⟨⟨[], by simp⟩, ⟨[], by simp⟩, ⟨[], by simp⟩,
    ⟨[_], rfl, fun h' => (by rw [h] at h'; cases h'), fun x hx => (by simp only [List.mem_singleton] at hx; subst hx; exact hb)⟩,
    fun _ => rfl, .inl rfl⟩

theorem allowed_recordTarget {r : Role} (h : r.control = true) (s : State) (a : Word) :
    Allowed r s.pkt.effects (s.recordTarget a).pkt.effects :=
  ⟨⟨[], by simp⟩, ⟨[], by simp⟩, ⟨[], by simp⟩, ⟨[], by simp⟩, fun h' => (by rw [h] at h'; cases h'), .inl rfl⟩

theorem allowed_recordClearResv {r : Role} (h : r.memory = true ∧ r.preds ≠ []) (s : State) :
    Allowed r s.pkt.effects s.recordClearResv.pkt.effects :=
  ⟨⟨[], by simp⟩, ⟨[], by simp⟩, ⟨[], by simp⟩, ⟨[], by simp⟩, fun _ => rfl, .inr h⟩

theorem allowed_recordPair {r : Role} {k : PairReg} (h : r.regs = pairRegs k) (s : State) (v : DWord) :
    Allowed r s.pkt.effects (s.recordPair k v).pkt.effects :=
  (allowed_recordReg (by rw [h]; exact List.Mem.head _) s _).trans
    (allowed_recordReg (by rw [h]; exact List.Mem.tail _ (List.Mem.head _)) _ _)

theorem allowed_recordQuad {r : Role} (h : r.preds = [0, 1, 2, 3]) (s : State) (v : Word) :
    Allowed r s.pkt.effects (s.recordQuad v).pkt.effects :=
  (((allowed_recordPred (by rw [h]; decide) s _).trans (allowed_recordPred (by rw [h]; decide) _ _)).trans
    (allowed_recordPred (by rw [h]; decide) _ _)).trans (allowed_recordPred (by rw [h]; decide) _ _)

/-! ### One shape of meaning -/

theorem allowed_reg {r : Role} {d : GReg} {v : Word} {s t : State} (h : d ∈ r.regs)
    (e : Host.Outcome.next (s.recordReg d v) = (.next t : Result)) : Allowed r s.pkt.effects t.pkt.effects := by
  cases e; exact allowed_recordReg h s v

theorem allowed_pred {r : Role} {d : PReg} {v : Byte} {s t : State} (h : d ∈ r.preds)
    (e : Host.Outcome.next (s.recordPred d v) = (.next t : Result)) : Allowed r s.pkt.effects t.pkt.effects := by
  cases e; exact allowed_recordPred h s v

theorem allowed_pair {r : Role} {k : PairReg} {v : DWord} {s t : State} (h : r.regs = pairRegs k)
    (e : Host.Outcome.next (s.recordPair k v) = (.next t : Result)) : Allowed r s.pkt.effects t.pkt.effects := by
  cases e; exact allowed_recordPair h s v

theorem allowed_quad {r : Role} {v : Word} {s t : State} (h : r.preds = [0, 1, 2, 3])
    (e : Host.Outcome.next (s.recordQuad v) = (.next t : Result)) : Allowed r s.pkt.effects t.pkt.effects := by
  cases e; exact allowed_recordQuad h s v

theorem allowed_store {w : Nat} {r : Role} {a : Word} {n : Nat} {v : BitVec w} {s t : State} (h : r.memory = true)
    (e : storing a n v s = .next t) : Allowed r s.pkt.effects t.pkt.effects := by
  obtain ⟨h1, _, rfl⟩ := storing_next e
  exact allowed_recordStore h s a _ (by rw [littleBytes_length]; exact aligned_bound h1)

theorem allowed_load {r : Role} {a : Word} {n : Nat} {d : GReg} {v : Word} {s t : State} (h : r.memory = true)
    (hd : d ∈ r.regs) (e : loading a n (fun u => u.recordReg d v) s = .next t) :
    Allowed r s.pkt.effects t.pkt.effects := by
  obtain ⟨_, _, rfl⟩ := loading_next e
  exact (allowed_recordLoad h s a n).trans (allowed_recordReg hd _ _)

theorem allowed_loadPair {r : Role} {a : Word} {n : Nat} {k : PairReg} {v : DWord} {s t : State} (h : r.memory = true)
    (hd : r.regs = pairRegs k) (e : loading a n (fun u => u.recordPair k v) s = .next t) :
    Allowed r s.pkt.effects t.pkt.effects := by
  obtain ⟨_, _, rfl⟩ := loading_next e
  exact (allowed_recordLoad h s a n).trans (allowed_recordPair hd _ _)

theorem allowed_storeConditional {w : Nat} {r : Role} {a : Word} {z : ResvSize} {v : BitVec w} {d : PReg}
    {s t : State} (h : r.memory = true) (hd : d ∈ r.preds) (e : storeConditional a z v d s = .next t) :
    Allowed r s.pkt.effects t.pkt.effects := by
  have hn : r.memory = true ∧ r.preds ≠ [] := ⟨h, List.ne_nil_of_mem hd⟩
  obtain ⟨h1, _, ⟨_, rfl⟩ | ⟨_, rfl⟩⟩ := storeConditional_next e
  · exact ((allowed_recordStore h s a _ (by rw [littleBytes_length]; exact aligned_bound h1)).trans
      (allowed_recordClearResv hn _)).trans (allowed_recordPred hd _ _)
  · exact (allowed_recordClearResv hn s).trans (allowed_recordPred hd _ _)

theorem allowed_jump {r : Role} {name : Label} {s t : State} (h : r.control = true)
    (e : withLabel name (fun a u => .next (u.recordTarget a)) s = .next t) :
    Allowed r s.pkt.effects t.pkt.effects := by
  obtain ⟨a, _, e⟩ := withLabel_next e
  cases e; exact allowed_recordTarget h s a

theorem allowed_call {r : Role} {name : Label} {d : GReg} {s t : State} (h : r.control = true) (hd : d ∈ r.regs)
    (e : withLabel name (fun a u => .next ((u.recordReg d u.returnAddress).recordTarget a)) s = .next t) :
    Allowed r s.pkt.effects t.pkt.effects := by
  obtain ⟨a, _, e⟩ := withLabel_next e
  cases e; exact (allowed_recordReg hd s _).trans (allowed_recordTarget h _ a)

theorem allowed_jumpr {r : Role} {a : Word} {s t : State} (h : r.control = true)
    (e : Host.Outcome.next (s.recordTarget a) = (.next t : Result)) : Allowed r s.pkt.effects t.pkt.effects := by
  cases e; exact allowed_recordTarget h s a

theorem allowed_callr {r : Role} {d : GReg} {a v : Word} {s t : State} (h : r.control = true) (hd : d ∈ r.regs)
    (e : Host.Outcome.next ((s.recordReg d v).recordTarget a) = (.next t : Result)) :
    Allowed r s.pkt.effects t.pkt.effects := by
  cases e; exact (allowed_recordReg hd s _).trans (allowed_recordTarget h _ a)

theorem allowed_deallocReturn {s t : State} (e : execDeallocReturn s = .next t) :
    Allowed Role.gkReturn s.pkt.effects t.pkt.effects := by
  obtain ⟨_, _, rfl⟩ := loading_next e
  exact ((((allowed_recordLoad rfl s _ _).trans (allowed_recordReg (by decide) _ _)).trans
    (allowed_recordReg (by decide) _ _)).trans (allowed_recordReg (by decide) _ _)).trans
    (allowed_recordTarget rfl _ _)

theorem allowed_guarded {r : Role} {g : Guard} {op : State → Result} {s t : State} (e : guarded g op s = .next t)
    (k : op s = .next t → Allowed r s.pkt.effects t.pkt.effects) : Allowed r s.pkt.effects t.pkt.effects := by
  rcases guarded_next e with ⟨_, h⟩ | ⟨_, rfl⟩
  · exact k h
  · exact Allowed.refl _ _

/-- What an instruction adds to the effects is what its role says. -/
theorem exec_allowed (i : Instr) (s t : State) (h : exec i s = .next t) :
    Allowed i.role s.pkt.effects t.pkt.effects := by
  cases i with
  | cmpbEqRr | cmpbEqRi | cmphEqRr | cmphEqRi | cmpEqRr | ncmpEqRr | cmpEqRi | ncmpEqRi | cmpEqPp | sfcmpEq
  | dfcmpEq | cmpbGtRr | cmpbGtRi | cmphGtRr | cmphGtRi | cmpGtRr | ncmpGtRr | cmpGtRi | ncmpGtRi | cmpGtPp
  | sfcmpGt | dfcmpGt | cmpbGtuRr | cmpbGtuRi | cmphGtuRr | cmphGtuRi | cmpGtuRr | ncmpGtuRr | cmpGtuRi
  | ncmpGtuRi | cmpGtuPp | cmpGeRi | sfcmpGe | dfcmpGe | cmpGeuRi | cmpLtRr | cmpLtuRr | sfcmpUo | dfcmpUo
  | sfclass | dfclass | tstbitRr | ntstbitRr | tstbitRi | ntstbitRi | bitsclrRr | nbitsclrRr | bitsclrRi
  | nbitsclrRi | bitssetRr | nbitssetRr | boundscheck | tlbmatch | tfrPp | tfrPr | andPp | andPpn | orPp | orPpn
  | andAndPpp | andAndPppn | andOrPpp | andOrPppn | orAndPpp | orAndPppn | orOrPpp | orOrPppn | notP | xorPp
  | any8 | all8 | vcmpbEq | vcmphEq | vcmpwEq | vcmpbGt | vcmpbGtu | vcmphGt | vcmphGtu | vcmpwGt | vcmpwGtu =>
    exact allowed_pred (List.Mem.head _) h
  | memwLockedSt | memdLockedSt =>
    exact allowed_storeConditional rfl (List.Mem.head _) h
  | cmpEqToR | tfrRp | tfrRp4 | addRr | addRi | subRr | andRr | orRr | xorRr | aslh | asrh | sxtb | sxth | zxtb
  | zxth | tfr | tfri | muxRr =>
    exact allowed_reg (List.Mem.head _) h
  | tfrP4r | tfrC54 =>
    exact allowed_quad rfl h
  | jump =>
    exact allowed_jump rfl h
  | jumpIfT | jumpIfF | jumpIfTnew | jumpIfFnew =>
    exact allowed_guarded h fun h => allowed_jump rfl h
  | call =>
    exact allowed_call rfl (List.Mem.head _) h
  | callIfT | callIfF | callIfTnew | callIfFnew =>
    exact allowed_guarded h fun h => allowed_call rfl (List.Mem.head _) h
  | jumpr =>
    exact allowed_jumpr rfl h
  | jumprIfT | jumprIfF | jumprIfTnew | jumprIfFnew =>
    exact allowed_guarded h fun h => allowed_jumpr rfl h
  | callr =>
    exact allowed_callr rfl (List.Mem.head _) h
  | callrIfT | callrIfF | callrIfTnew | callrIfFnew =>
    exact allowed_guarded h fun h => allowed_callr rfl (List.Mem.head _) h
  | memwLd | membLd | memubLd | memhLd | memuhLd =>
    exact allowed_load rfl (List.Mem.head _) h
  | memwLdIfT | memwLdIfF | memwLdIfTnew | memwLdIfFnew | membLdIfT | membLdIfF | membLdIfTnew | membLdIfFnew
  | memubLdIfT | memubLdIfF | memubLdIfTnew | memubLdIfFnew | memhLdIfT | memhLdIfF | memhLdIfTnew
  | memhLdIfFnew | memuhLdIfT | memuhLdIfF | memuhLdIfTnew | memuhLdIfFnew =>
    exact allowed_guarded h fun h => allowed_load rfl (List.Mem.head _) h
  | memdLd =>
    exact allowed_loadPair rfl rfl h
  | memdLdIfT | memdLdIfF | memdLdIfTnew | memdLdIfFnew =>
    exact allowed_guarded h fun h => allowed_loadPair rfl rfl h
  | memwSt | memdSt | membSt | memhSt =>
    exact allowed_store rfl h
  | memwStIfT | memwStIfF | memwStIfTnew | memwStIfFnew | memdStIfT | memdStIfF | memdStIfTnew | memdStIfFnew
  | membStIfT | membStIfF | membStIfTnew | membStIfFnew | memhStIfT | memhStIfF | memhStIfTnew | memhStIfFnew =>
    exact allowed_guarded h fun h => allowed_store rfl h
  | addRrIfT | addRrIfF | addRrIfTnew | addRrIfFnew | addRiIfT | addRiIfF | addRiIfTnew | addRiIfFnew | subRrIfT
  | subRrIfF | subRrIfTnew | subRrIfFnew | andRrIfT | andRrIfF | andRrIfTnew | andRrIfFnew | orRrIfT | orRrIfF
  | orRrIfTnew | orRrIfFnew | xorRrIfT | xorRrIfF | xorRrIfTnew | xorRrIfFnew | aslhIfT | aslhIfF | aslhIfTnew
  | aslhIfFnew | asrhIfT | asrhIfF | asrhIfTnew | asrhIfFnew | sxtbIfT | sxtbIfF | sxtbIfTnew | sxtbIfFnew
  | sxthIfT | sxthIfF | sxthIfTnew | sxthIfFnew | zxtbIfT | zxtbIfF | zxtbIfTnew | zxtbIfFnew | zxthIfT
  | zxthIfF | zxthIfTnew | zxthIfFnew | tfrIfT | tfrIfF | tfrIfTnew | tfrIfFnew | tfriIfT | tfriIfF | tfriIfTnew
  | tfriIfFnew =>
    exact allowed_guarded h fun h => allowed_reg (List.Mem.head _) h
  | combine | vmux =>
    exact allowed_pair rfl h
  | combineIfT | combineIfF | combineIfTnew | combineIfFnew =>
    exact allowed_guarded h fun h => allowed_pair rfl h
  | deallocReturn =>
    exact allowed_deallocReturn h
  | deallocReturnIfT | deallocReturnIfF | deallocReturnIfTnew | deallocReturnIfFnew =>
    exact allowed_guarded h fun h => allowed_deallocReturn h

end Sys2Proof.Machine
end

