-- ==== Sys2Proof/Laws/Operands.lean ====
section
/-!
SUPPORT. For the operand forms and the conditions, what each computes: truth values, parts of registers, lanes of
vectors, register pairs, bit tests, floating-point operands and classes.
-/

namespace Sys2Proof.Machine

/-! ### Truth values (R7, R14) -/

@[simp] theorem truth_true : truth true = 0xFF#8 := rfl
@[simp] theorem truth_false : truth false = 0x00#8 := rfl

/-- An instruction whose only record is the truth value of `b` generates every condition that `b` decides. -/
theorem generates_truth {i : Instr} {s : State} {pd : PReg} {b : Bool} {p : Prop}
    (h : exec i s = .next (s.recordPred pd (truth b))) (hb : b = true ↔ p) : Generates i s pd p := by
  refine ⟨fun hp => ?_, fun hp => ?_⟩
  · rw [h, hb.2 hp]; rfl
  · rw [h, (Bool.not_eq_true b).mp fun e => hp (hb.1 e)]; rfl

/-! ### Parts of a register -/

theorem lowByte_toNat (x : Word) : (lowByte x).toNat = x.toNat % 2 ^ 8 := by simp [lowByte]

theorem lowHalf_toNat (x : Word) : (lowHalf x).toNat = x.toNat % 2 ^ 16 := by simp [lowHalf]

theorem lowByte_eq_setWidth (x : Word) : lowByte x = x.setWidth 8 := by
  rw [← BitVec.toNat_inj, lowByte_toNat, BitVec.toNat_setWidth]

theorem lowHalf_eq_setWidth (x : Word) : lowHalf x = x.setWidth 16 := by
  rw [← BitVec.toNat_inj, lowHalf_toNat, BitVec.toNat_setWidth]

/-- A word is the immediate operand of a number in the range of a signed immediate exactly if its signed value is that
number. -/
theorem eq_immWord_iff (x : Word) (n : Int) (h : -2 ^ 31 ≤ n ∧ n < 2 ^ 31) : x = immWord n ↔ x.toInt = n := by
  constructor
  · intro e
    rw [e, immWord, BitVec.toInt_ofInt, Int.bmod_def]
    omega
  · intro e
    rw [← e, immWord, BitVec.ofInt_toInt]

/-! ### Register pairs (R11) -/

/-- The low 32 bits of a pair are its even register. -/
theorem pair_getLsbD_low (s : State) (k : PairReg) (i : Nat) (h : i < 32) :
    (s.pair k).getLsbD i = (s.reg (evenReg k)).getLsbD i := by
  refine Eq.trans (BitVec.getLsbD_append ..) ?_
  rw [if_pos h]

/-- The high 32 bits of a pair are its odd register. -/
theorem pair_getLsbD_high (s : State) (k : PairReg) (i : Nat) (h : 32 ≤ i) :
    (s.pair k).getLsbD i = (s.reg (oddReg k)).getLsbD (i - 32) := by
  refine Eq.trans (BitVec.getLsbD_append ..) ?_
  rw [if_neg (by omega)]

/-- The unsigned value of a pair. -/
theorem pair_toNat (s : State) (k : PairReg) :
    (s.pair k).toNat = (s.reg (oddReg k)).toNat * 2 ^ 32 + (s.reg (evenReg k)).toNat := by
  have e : (s.pair k).toNat = (s.reg (oddReg k)).toNat <<< 32 ||| (s.reg (evenReg k)).toNat := BitVec.toNat_append _ _
  have := (s.reg (evenReg k)).isLt
  rw [e, Nat.shiftLeft_eq, Nat.mul_comm, ← Nat.two_pow_add_eq_or_of_lt (by omega)]

/-- The signed value of a pair. -/
theorem pair_toInt (s : State) (k : PairReg) :
    (s.pair k).toInt = (s.reg (oddReg k)).toInt * 2 ^ 32 + ((s.reg (evenReg k)).toNat : Int) := by
  rw [BitVec.toInt_eq_toNat_cond, BitVec.toInt_eq_toNat_cond, pair_toNat]
  have := (s.reg (oddReg k)).isLt
  have := (s.reg (evenReg k)).isLt
  split <;> split <;> push_cast <;> omega

@[simp] theorem wordLane_pair_low (s : State) (k : PairReg) : wordLane (s.pair k) 0 = s.reg (evenReg k) := by
  apply BitVec.eq_of_getLsbD_eq
  intro i hi
  rw [wordLane, BitVec.getLsbD_extractLsb', pair_getLsbD_low _ _ _ (by omega)]
  simp [hi]

@[simp] theorem wordLane_pair_high (s : State) (k : PairReg) : wordLane (s.pair k) 1 = s.reg (oddReg k) := by
  apply BitVec.eq_of_getLsbD_eq
  intro i hi
  rw [wordLane, BitVec.getLsbD_extractLsb', pair_getLsbD_high _ _ _ (by omega)]
  simp [hi]

/-! ### Vectors (R401 to R406) -/

/-- Bit `k` of the predicate that a vector compare builds. -/
theorem predOfBits_getLsbD (f : Nat → Bool) (k : Nat) (hk : k < 8) : (predOfBits f).getLsbD k = f k := by
  simp [predOfBits, hk]

/-- Byte lane `i` of the value that `vmux` builds. -/
theorem ofByteLanes_extract (f : Nat → Byte) (i : Nat) (hi : i < 8) :
    (ofByteLanes f).extractLsb' (8 * i) 8 = f i := by
  apply BitVec.eq_of_getLsbD_eq
  intro j hj
  have e : ∀ k, (ofByteLanes f).getLsbD k =
      (((((((f 7 ++ f 6) ++ f 5) ++ f 4) ++ f 3) ++ f 2) ++ f 1) ++ f 0).getLsbD k := fun _ => rfl
  rw [BitVec.getLsbD_extractLsb', e]
  simp only [BitVec.getLsbD_append, hj, decide_true, Bool.true_and]
  interval_cases i
  · rw [if_pos (by omega)]; congr 1; omega
  · rw [if_neg (by omega), if_pos (by omega)]; congr 1; omega
  · iterate 2 rw [if_neg (by omega)]
    rw [if_pos (by omega)]; congr 1; omega
  · iterate 3 rw [if_neg (by omega)]
    rw [if_pos (by omega)]; congr 1; omega
  · iterate 4 rw [if_neg (by omega)]
    rw [if_pos (by omega)]; congr 1; omega
  · iterate 5 rw [if_neg (by omega)]
    rw [if_pos (by omega)]; congr 1; omega
  · iterate 6 rw [if_neg (by omega)]
    rw [if_pos (by omega)]; congr 1; omega
  · iterate 7 rw [if_neg (by omega)]
    congr 1; omega

/-- A bit of a lane is a bit of one of its bytes. -/
theorem lane_getLsbD (v : DWord) (w i j : Nat) (hj : j < w) :
    (v.extractLsb' (w * i) w).getLsbD j =
      (v.extractLsb' (8 * ((w * i + j) / 8)) 8).getLsbD ((w * i + j) % 8) := by
  have h : (w * i + j) % 8 < 8 := Nat.mod_lt _ (by decide)
  rw [BitVec.getLsbD_extractLsb', BitVec.getLsbD_extractLsb']
  simp only [hj, h, decide_true, Bool.true_and]
  congr 1
  omega

/-! ### Values in memory (R32) -/

/-- Byte `i` of a little-endian value is the byte at the address plus `i`. -/
theorem valueAt_byte (s : State) (a n i : Nat) (h : i < n) :
    s.valueAt a n / 256 ^ i % 256 = (s.byteAt (a + i)).toNat := by
  induction n generalizing a i with
  | zero => omega
  | succ n ih =>
    have hb := (s.byteAt a).isLt
    cases i with
    | zero => simp only [State.valueAt, pow_zero, Nat.div_one, Nat.add_zero]; omega
    | succ i =>
      have := ih (a + 1) i (by omega)
      simp only [State.valueAt]
      rw [pow_succ, Nat.mul_comm (256 ^ i) 256, ← Nat.div_div_eq_div_mul,
        show ((s.byteAt a).toNat + 256 * s.valueAt (a + 1) n) / 256 = s.valueAt (a + 1) n by omega, this]
      congr 2
      omega

theorem valueAt_lt (s : State) (a n : Nat) : s.valueAt a n < 2 ^ (8 * n) := by
  induction n generalizing a with
  | zero => exact Nat.one_pos
  | succ n ih =>
    have := ih (a + 1)
    have hb := (s.byteAt a).isLt
    simp only [State.valueAt, Nat.mul_add, Nat.pow_add]
    omega

/-! ### Bit tests (R146, R150) -/

theorem bitsClear_iff (x m : Word) :
    bitsClear x m = true ↔ ∀ k < 32, m.getLsbD k = true → x.getLsbD k = false := by
  simp only [bitsClear, decide_eq_true_eq]
  constructor
  · intro h k hk hm
    have := congrArg (·.getLsbD k) h
    simpa [hm] using this
  · intro h
    apply BitVec.eq_of_getLsbD_eq
    intro k hk
    have := h k hk
    by_cases hm : m.getLsbD k = true <;> simp_all

theorem bitsSet_iff (x m : Word) :
    bitsSet x m = true ↔ ∀ k < 32, m.getLsbD k = true → x.getLsbD k = true := by
  simp only [bitsSet, decide_eq_true_eq]
  constructor
  · intro h k hk hm
    have := congrArg (·.getLsbD k) h
    simpa [hm] using this
  · intro h
    apply BitVec.eq_of_getLsbD_eq
    intro k hk
    have := h k hk
    by_cases hm : m.getLsbD k = true <;> simp_all

/-! ### Floating point (R157) -/

theorem isNaN_single (x : Word) : single.isNaN x = true ↔ SingleNaN x := by
  simp only [Bool.and_eq_true, decide_eq_true_eq, FpFormat.isNaN]; rfl

theorem isNaN_double (x : DWord) : double.isNaN x = true ↔ DoubleNaN x := by
  simp only [Bool.and_eq_true, decide_eq_true_eq, FpFormat.isNaN]; rfl

theorem key_single (x : Word) : single.key x = singleKey x := by
  have := x.isLt
  have h : single.sign x = decide (2 ^ 31 ≤ x.toNat) := by
    simp only [single, FpFormat.sign]
    rw [show (8 + 23) = 32 - 1 from rfl, ← BitVec.msb_eq_getLsbD_last, BitVec.msb_eq_decide]
  simp only [FpFormat.key, singleKey, h, FpFormat.mag, decide_eq_true_eq, show single.expBits + single.fracBits = 31 from rfl]
  split <;> split <;> omega

theorem key_double (x : DWord) : double.key x = doubleKey x := by
  have := x.isLt
  have h : double.sign x = decide (2 ^ 63 ≤ x.toNat) := by
    simp only [double, FpFormat.sign]
    rw [show (11 + 52) = 64 - 1 from rfl, ← BitVec.msb_eq_getLsbD_last, BitVec.msb_eq_decide]
  simp only [FpFormat.key, doubleKey, h, FpFormat.mag, decide_eq_true_eq, show double.expBits + double.fracBits = 63 from rfl]
  split <;> split <;> omega

/-- Two classes with one bit are one class (R140: `ClassBit` is a bijection). -/
theorem ClassBits.bit_injective (b : ClassBits) {c d : FpClass} (h : b.bit c = b.bit d) : c = d := by
  have := b.distinct
  simp only [List.nodup_cons, List.mem_cons, List.not_mem_nil, not_or, or_false] at this
  obtain ⟨⟨h₁, h₂, h₃, h₄⟩, ⟨h₅, h₆, h₇⟩, ⟨h₈, h₉⟩, h₀, -⟩ := this
  cases c <;> cases d <;> first | rfl | exact absurd h ‹_› | exact absurd h.symm ‹_›

/-- Every bit stands for a class (R140: `ClassBit` is a bijection). -/
theorem ClassBits.bit_surjective (b : ClassBits) (k : Fin 5) : ∃ c, b.bit c = k := by
  have h : k ∈ [b.zero, b.normal, b.subnormal, b.infinite, b.nan] := by
    rw [← List.mem_toFinset, Finset.eq_univ_of_card _ (List.toFinset_card_of_nodup b.distinct)]
    exact Finset.mem_univ k
  simp only [List.mem_cons, List.not_mem_nil, or_false] at h
  rcases h with h | h | h | h | h
  · exact ⟨.zero, h.symm⟩
  · exact ⟨.normal, h.symm⟩
  · exact ⟨.subnormal, h.symm⟩
  · exact ⟨.infinite, h.symm⟩
  · exact ⟨.nan, h.symm⟩

end Sys2Proof.Machine
end

