-- ==== Sys2Proof/Laws/Packet.lean ====
section
/-!
SUPPORT. The packet as a whole: when its lines are admitted, that the step at an admitted packet runs it, what the
merged effects are, and that a predicate result is the same in phase 1 and in phase 3.
-/

namespace Sys2Proof.Machine

/-! ### Phase 0 -/

/-- When a packet passes the static checks. -/
theorem admitted_iff {l : Launch} {p : PacketText} {is : List Instr} :
    l.admitted p = .ok is ↔ sizeOk p.lines.length = true ∧ readLines p.lines = some is ∧ l.refusal is = none := by
  unfold Launch.admitted
  split
  · split
    · simp_all
    · split <;> simp_all <;> rintro rfl <;> simp_all
  · simp_all

/-- A packet of one line that decodes. -/
theorem readLines_singleton {line : Text} {i : Instr} (h : decode line = .ok i) : readLines [line] = some [i] := by
  simp [readLines, readText, h]

/-- The step at an admitted packet runs it. -/
theorem step_atPacket {s : State} {is : List Instr} (h : AtPacket s is) : step s = s.runPacket is := by
  obtain ⟨h1, p, h2, h3⟩ := h
  simp [step, packetStep, h1, h2, h3]

/-- The instructions at the pc have passed every static check. -/
theorem check_atPacket {s : State} {is : List Instr} (h : AtPacket s is) {c : Bool × Refusal}
    (hc : c ∈ s.launch.checks is) : c.1 = false := by
  obtain ⟨_, p, _, h⟩ := h
  have h := (admitted_iff.1 h).2.2
  simp only [Launch.refusal, Option.map_eq_none_iff, List.find?_eq_none] at h
  simpa using h c hc

/-- A failed static check is a refusal. -/
theorem refusal_of_check {l : Launch} {is : List Instr} {c : Bool × Refusal} (h : c ∈ l.checks is) (hc : c.1 = true) :
    l.refusal is ≠ none := by
  intro e
  simp only [Launch.refusal, Option.map_eq_none_iff, List.find?_eq_none] at e
  exact e c h hc

/-- A relation that holds of two instructions in order is found. -/
theorem anyPair_append {α : Type} (f : α → α → Bool) (l₁ l₂ l₃ : List α) (i j : α) (h : f i j = true) :
    anyPair f (l₁ ++ i :: l₂ ++ j :: l₃) = true := by
  induction l₁ with
  | nil => simp [anyPair, h]
  | cons x xs ih =>
    simp only [List.cons_append, List.append_assoc] at ih ⊢
    simp [anyPair, ih]

/-! ### Phases 2 to 4 -/

theorem mem_outcomes {is : List Instr} {s : State} {o : Result} : o ∈ outcomes is s ↔ ∃ i ∈ is, exec i s = o := by
  simp [outcomes]

theorem merged_regs (os : List Result) : (merged os).regs = os.flatMap fun o => (effectsOf o).regs := by
  induction os with
  | nil => rfl
  | cons o os ih => show (effectsOf o).regs ++ (merged os).regs = _; rw [ih]; rfl

theorem merged_loads (os : List Result) : (merged os).loads = os.flatMap fun o => (effectsOf o).loads := by
  induction os with
  | nil => rfl
  | cons o os ih => show (effectsOf o).loads ++ (merged os).loads = _; rw [ih]; rfl

theorem merged_stores (os : List Result) : (merged os).stores = os.flatMap fun o => (effectsOf o).stores := by
  induction os with
  | nil => rfl
  | cons o os ih => show (effectsOf o).stores ++ (merged os).stores = _; rw [ih]; rfl

/-- A packet whose instructions all have a next state goes on to the checks of phase 4. -/
theorem runPacket_finish {s : State} {is : List Instr} (h : ∀ i ∈ is, ∃ u, exec i (s.generated is) = .next u) :
    s.runPacket is =
      s.finish is.length (s.generated is).pkt.newP (merged (outcomes is (s.generated is))) := by
  unfold State.runPacket
  rw [firstStop_none.2 fun o ho => by obtain ⟨i, hi, rfl⟩ := mem_outcomes.1 ho; exact h i hi]

/-- An instruction that records a pc target is a control transfer. -/
theorem control_of_target {i : Instr} {s u : State} {a : Word} (h : exec i s = .next u)
    (hs : s.pkt.effects.target = none) (ha : u.pkt.effects.target = some a) : i.role.control = true := by
  by_contra hc
  rw [Bool.not_eq_true] at hc
  rw [(exec_allowed i _ _ h).target hc, hs] at ha
  cases ha

/-! ### Phase 1 and phase 3 agree on predicate results -/

/-- The predicate result of a store conditional. -/
theorem preds_storeConditional {w : Nat} (a : Word) (z : ResvSize) (v : BitVec w) (pd : PReg) (s : State) :
    (effectsOf (storeConditional a z v pd s)).preds =
      bif aligned a z.bytes && s.permits a z.bytes .write then
        s.pkt.effects.preds ++ [(pd, if s.scSucceeds a z pd then 0xFF#8 else 0x00#8)]
      else [] := by
  unfold storeConditional checked
  cases aligned a z.bytes <;> cases s.permits a z.bytes .write <;> first | rfl | skip
  cases h : s.scSucceeds a z pd <;> simp only [h] <;> rfl

/-- No predicate result depends on the newly generated values. -/
theorem preds_newP (i : Instr) (s : State) (v : Vector (Option Byte) 4) :
    (effectsOf (exec i { s with pkt := { s.pkt with newP := v } })).preds = (effectsOf (exec i s)).preds ∨
      i.role.preds = [] := by
  cases i <;> first
    | (right; rfl)
    | (left; rfl)
    | skip
  all_goals left
  all_goals dsimp only [exec]
  all_goals first | unfold execMemwLockedSt | unfold execMemdLockedSt
  all_goals rw [preds_storeConditional, preds_storeConditional]; rfl

/-- The predicate results of phase 1 are those that the instructions record in phase 3 (R300, R305). -/
theorem predResults_begin (s : State) (is : List Instr) (h : ∀ i ∈ is, ∃ u, exec i (s.generated is) = .next u) :
    predResults is (s.begin is.length) = is.flatMap fun i => (effectsOf (exec i (s.generated is))).preds := by
  have each : ∀ i ∈ is,
      (effectsOf (exec i (s.begin is.length))).preds = (effectsOf (exec i (s.generated is))).preds := by
    intro i hi
    rcases preds_newP i (s.begin is.length) (s.generated is).pkt.newP with e | e
    · exact e.symm
    · have none_of : ∀ s₀ u, exec i s₀ = .next u → s₀.pkt.effects.preds = [] → u.pkt.effects.preds = [] := by
        intro s₀ u hu h0
        obtain ⟨ps, e1, e2⟩ := (exec_allowed i _ _ hu).preds
        rw [e] at e2
        have : ps = [] := List.eq_nil_iff_forall_not_mem.2 fun x hx => by cases e2 x hx
        rw [e1, h0, this]; rfl
      obtain ⟨u, hu⟩ := h i hi
      rw [hu]
      show _ = u.pkt.effects.preds
      rw [none_of _ _ hu rfl]
      cases hh : exec i (s.begin is.length) with
      | next w => exact none_of _ _ hh rfl
      | fault f => rfl
      | refused r => rfl
  have all : ∀ l : List Instr, (∀ i ∈ l, i ∈ is) →
      (l.flatMap fun i => (effectsOf (exec i (s.begin is.length))).preds) =
        l.flatMap fun i => (effectsOf (exec i (s.generated is))).preds := by
    intro l hl
    induction l with
    | nil => rfl
    | cons x l ih =>
      simp only [List.flatMap_cons]
      rw [each x (hl x List.mem_cons_self), ih fun i hi => hl i (List.mem_cons_of_mem _ hi)]
  exact all is fun i hi => hi

/-- Without a result for it a predicate register has no new value. -/
theorem combined_none {rs : List (PReg × Byte)} {d : PReg} : combined rs d = none ↔ ∀ w ∈ rs, w.1 ≠ d := by
  unfold combined
  split
  · rename_i e
    simp only [true_iff]
    intro w hw h
    have : w ∈ rs.filter fun r => decide (r.1 = d) := List.mem_filter.2 ⟨hw, by simp [h]⟩
    rw [e] at this; cases this
  · rename_i r l e
    simp only [reduceCtorEq, false_iff]
    intro h
    have : r ∈ rs.filter fun r => decide (r.1 = d) := by rw [e]; exact List.mem_cons_self
    rw [List.mem_filter] at this
    exact h r this.1 (by simpa using this.2)

/-- A predicate register after the commit. -/
theorem commit_pred {s : State} {is : List Instr} {e : Effects} {pc : Word} (d : PReg) :
    (s.commit (s.generated is).pkt.newP e pc).pred d =
      (combined (predResults is (s.begin is.length)) d).getD (s.pred d) := by
  show (commitPreds s.preds _)[d.val] = _
  rw [commitPreds_get]
  show Option.getD (newValues is (s.begin is.length))[d.val] _ = _
  rw [newValues_get]; rfl

end Sys2Proof.Machine
end

