-- ==== Sys2Proof/Laws/Text.lean ====
section
/-!
SUPPORT. The lexer reads back what is spelt: decimal numbers, the words, and whole lines.
-/

namespace Sys2Proof.Lexer

/-! ### Decimal numbers -/

theorem digitByte_toNat {d : Nat} (h : d < 10) : (digitByte d).toNat = 48 + d := by
  simp only [digitByte, BitVec.toNat_ofNat]
  omega

theorem isDigit_digitByte {d : Nat} (h : d < 10) : isDigit (digitByte d) = true := by
  simp only [isDigit, digitByte_toNat h, Bool.and_eq_true, decide_eq_true_eq]
  omega

/-- Reading on after the digits of a number. -/
theorem readDecimalGo_decimalGo (fuel n k : Nat) (acc : Text) (h : n < fuel) :
    ∃ c, readDecimalGo k (decimalGo fuel n acc) = readDecimalGo (c * k + n) acc := by
  induction fuel generalizing n acc with
  | zero => omega
  | succ fuel ih =>
    simp only [decimalGo]
    split
    · rename_i hn
      refine ⟨10, ?_⟩
      simp only [readDecimalGo, isDigit_digitByte hn, if_true, digitByte_toNat hn]
      congr 1
      omega
    · obtain ⟨c, hc⟩ := ih (n / 10) (digitByte (n % 10) :: acc) (by omega)
      have hd : n % 10 < 10 := Nat.mod_lt _ (by omega)
      refine ⟨10 * c, ?_⟩
      rw [hc]
      simp only [readDecimalGo, isDigit_digitByte hd, if_true, digitByte_toNat hd]
      congr 1
      rw [Nat.mul_add, Nat.mul_assoc]
      omega

/-- The first byte of a decimal number is a digit. -/
theorem decimalGo_head (fuel n : Nat) (acc : Text) (h : n < fuel) :
    ∃ b bs, decimalGo fuel n acc = b :: bs ∧ isDigit b = true := by
  induction fuel generalizing n acc with
  | zero => omega
  | succ fuel ih =>
    simp only [decimalGo]
    split
    · exact ⟨_, _, rfl, isDigit_digitByte ‹_›⟩
    · exact ih (n / 10) _ (by omega)

/-- Every byte of a decimal number is a digit. -/
theorem decimalGo_digits (fuel n : Nat) (acc : Text) (h : acc.all isDigit = true) :
    (decimalGo fuel n acc).all isDigit = true := by
  induction fuel generalizing n acc with
  | zero => exact h
  | succ fuel ih =>
    simp only [decimalGo]
    split
    · rw [List.all_cons, isDigit_digitByte ‹_›, h]; rfl
    · refine ih _ _ ?_
      rw [List.all_cons, isDigit_digitByte (Nat.mod_lt _ (by omega)), h]
      rfl

theorem decimal_head (n : Nat) : ∃ b bs, decimal n = b :: bs ∧ isDigit b = true :=
  decimalGo_head (n + 1) n [] (Nat.lt_succ_self n)

theorem decimal_digits (n : Nat) : (decimal n).all isDigit = true := decimalGo_digits _ _ _ rfl

/-- A decimal number reads back. -/
theorem readDecimal_decimal (n : Nat) : readDecimal (decimal n) = some n := by
  obtain ⟨c, hc⟩ := readDecimalGo_decimalGo (n + 1) n 0 [] (Nat.lt_succ_self n)
  obtain ⟨b, bs, hb, _⟩ := decimal_head n
  have h : readDecimalGo 0 (decimal n) = some n := by simpa [decimal, readDecimalGo] using hc
  rw [hb] at h ⊢
  exact h

/-- A number written in decimal reads back. -/
theorem readNumber_decimal (n : Nat) : readNumber (decimal n) = some n := by
  simp only [readNumber, readDecimal_decimal, Option.some_or]

/-- An immediate reads back. -/
theorem readImmediate_immediateText (n : Int) : readImmediate (immediateText n) = some n := by
  unfold immediateText
  split
  · have h : readImmediate (35#8 :: 45#8 :: decimal n.natAbs) =
        (readNumber (decimal n.natAbs)).map fun m => -(m : Int) := rfl
    rw [h, readNumber_decimal]
    show some (-(n.natAbs : Int)) = some n
    congr 1
    omega
  · obtain ⟨b, bs, hb, hd⟩ := decimal_head n.natAbs
    have h45 : ¬ b.toNat = 45 := by
      simp only [isDigit, Bool.and_eq_true, decide_eq_true_eq] at hd
      omega
    have h : readImmediate (35#8 :: decimal n.natAbs) = (readNumber (decimal n.natAbs)).map fun m => (m : Int) := by
      rw [hb]
      show (if b.toNat = 45 then _ else _) = _
      rw [if_neg h45]
    rw [h, readNumber_decimal]
    show some (n.natAbs : Int) = some n
    congr 1
    omega

/-! ### Words -/

/-- The token is one word, not punctuation. -/
def Token.isWord : Token → Bool
  | .lpar => false
  | .rpar => false
  | .comma => false
  | .eq => false
  | .bang => false
  | .reg _ => true
  | .pair _ => true
  | .pred _ => true
  | .newPred _ => true
  | .quad => true
  | .ctl => true
  | .kw _ => true
  | .imm _ => true
  | .label _ => true

/-- The token can be spelt: a label must be a name that no other word hides. -/
def Token.ok : Token → Bool
  | .label l => isLabel l
  | .lpar => true
  | .rpar => true
  | .comma => true
  | .eq => true
  | .bang => true
  | .reg _ => true
  | .pair _ => true
  | .pred _ => true
  | .newPred _ => true
  | .quad => true
  | .ctl => true
  | .kw _ => true
  | .imm _ => true

/-- A word that begins with `#` is an immediate. -/
theorem wordToken_hash (bs : Text) (n : Int) (h : readImmediate (35#8 :: bs) = some n) :
    wordToken (35#8 :: bs) = some (.imm n) := by
  have : operandToken (35#8 :: bs) = (readImmediate (35#8 :: bs)).map .imm := rfl
  unfold wordToken
  rw [this, h]
  rfl

theorem immediateText_hash (n : Int) : ∃ bs, immediateText n = 35#8 :: bs := by
  unfold immediateText
  split <;> exact ⟨_, rfl⟩

theorem wordToken_kw (k : Kw) : wordToken k.text = some (.kw k) := by
  cases k <;> decide +kernel

theorem wordToken_reg : ∀ r : GReg, wordToken (regText r) = some (.reg r) := by decide +kernel

theorem wordToken_pred : ∀ p : PReg, wordToken (predText p) = some (.pred p) := by decide +kernel

theorem wordToken_newPred : ∀ p : PReg, wordToken (newPredText p) = some (.newPred p) := by decide +kernel

theorem wordToken_pair : ∀ k : PairReg, wordToken (pairText k) = some (.pair k) := by decide +kernel

/-- The spelling of a word token reads back. -/
theorem wordToken_text (t : Token) (hw : t.isWord = true) (ho : t.ok = true) : wordToken t.text = some t := by
  cases t with
  | reg r => exact wordToken_reg r
  | pair k => exact wordToken_pair k
  | pred p => exact wordToken_pred p
  | newPred p => exact wordToken_newPred p
  | quad => decide +kernel
  | ctl => decide +kernel
  | kw k => exact wordToken_kw k
  | imm n =>
    obtain ⟨bs, hb⟩ := immediateText_hash n
    have h := readImmediate_immediateText n
    simp only [Token.text]
    rw [hb] at h ⊢
    exact wordToken_hash bs n h
  | label l =>
    simp only [Token.ok, isLabel, Bool.and_eq_true, beq_iff_eq] at ho
    exact ho.2
  | lpar => cases hw
  | rpar => cases hw
  | comma => cases hw
  | eq => cases hw
  | bang => cases hw

/-- The bytes of a word token are word bytes. -/
theorem text_wordBytes (t : Token) (hw : t.isWord = true) (ho : t.ok = true) :
    t.text ≠ [] ∧ t.text.all isWordByte = true := by
  have hdig : ∀ bs : Text, bs.all isDigit = true → bs.all isWordByte = true := by
    intro bs h
    rw [List.all_eq_true] at *
    intro b hb
    simp [isWordByte, h b hb]
  cases t with
  | reg r => exact (by decide +kernel : ∀ r : GReg, regText r ≠ [] ∧ (regText r).all isWordByte = true) r
  | pair k => exact (by decide +kernel : ∀ k : PairReg, pairText k ≠ [] ∧ (pairText k).all isWordByte = true) k
  | pred p => exact (by decide +kernel : ∀ p : PReg, predText p ≠ [] ∧ (predText p).all isWordByte = true) p
  | newPred p =>
    exact (by decide +kernel : ∀ p : PReg, newPredText p ≠ [] ∧ (newPredText p).all isWordByte = true) p
  | quad => decide +kernel
  | ctl => decide +kernel
  | kw k => cases k <;> decide +kernel
  | imm n =>
    simp only [Token.text, immediateText]
    split
    · refine ⟨by simp, ?_⟩
      rw [List.all_cons, List.all_cons, hdig _ (decimal_digits _)]
      decide
    · refine ⟨by simp, ?_⟩
      rw [List.all_cons, hdig _ (decimal_digits _)]
      decide
  | label l =>
    simp only [Token.ok, isLabel, Bool.and_eq_true] at ho
    cases l with
    | nil => exact absurd ho.1 (by decide)
    | cons b bs =>
      refine ⟨by simp [Token.text], ?_⟩
      have h := ho.1
      simp only [isName, Bool.and_eq_true] at h
      simp only [Token.text, List.all_cons, Bool.and_eq_true]
      refine ⟨by simp [isWordByte, h.1], ?_⟩
      rw [List.all_eq_true] at *
      intro c hc
      have h2 := h.2 c hc
      simp only [Bool.or_eq_true] at h2
      simp only [isWordByte, Bool.or_eq_true]
      tauto
  | lpar => cases hw
  | rpar => cases hw
  | comma => cases hw
  | eq => cases hw
  | bang => cases hw

/-! ### Lines -/

/-- Word bytes join the word that is being read. -/
theorem tokensFrom_word (w u rest : Text) (h : w.all isWordByte = true) :
    tokensFrom u (w ++ rest) = tokensFrom (u ++ w) rest := by
  induction w generalizing u with
  | nil => simp
  | cons b w ih =>
    simp only [List.all_cons, Bool.and_eq_true] at h
    rw [List.cons_append, tokensFrom, if_pos h.1, ih _ h.2, List.append_assoc, List.singleton_append]

/-- A blank ends the word that is being read. -/
theorem tokensFrom_blank (u rest : Text) : tokensFrom u (32#8 :: rest) = (tokensFrom [] rest).bind (flush u) := by
  rw [tokensFrom, if_neg (by decide), if_pos (by decide)]

/-- A line that is spelt from tokens reads back (R52). -/
theorem tokens_spell (ts : List Token) (h : ts.all Token.ok = true) : tokens (spell ts) = some ts := by
  unfold tokens
  induction ts with
  | nil => rfl
  | cons t ts ih =>
    simp only [List.all_cons, Bool.and_eq_true] at h
    have ih := ih h.2
    have hp : ∀ (b : Byte), isWordByte b = false → isSpace b = false → b.toNat ≠ 47 → punctuation b = some t →
        tokensFrom [] ([b] ++ 32#8 :: spell ts) = some (t :: ts) := by
      intro b h1 h2 h3 h4
      rw [List.singleton_append, tokensFrom, if_neg (by rw [h1]; decide), if_neg (by rw [h2]; decide), if_neg h3, h4]
      simp only [tokensFrom_blank, ih, Option.bind_some, flush, if_true]
    by_cases hw : t.isWord = true
    · obtain ⟨hne, hb⟩ := text_wordBytes t hw h.1
      rw [spell, tokensFrom_word _ _ _ hb, List.nil_append, tokensFrom_blank, ih, Option.bind_some, flush, if_neg hne,
        wordToken_text t hw h.1]
      rfl
    · cases t with
      | lpar => exact hp 40 (by decide) (by decide) (by decide) (by decide)
      | rpar => exact hp 41 (by decide) (by decide) (by decide) (by decide)
      | comma => exact hp 44 (by decide) (by decide) (by decide) (by decide)
      | eq => exact hp 61 (by decide) (by decide) (by decide) (by decide)
      | bang => exact hp 33 (by decide) (by decide) (by decide) (by decide)
      | reg r => exact absurd rfl hw
      | pair k => exact absurd rfl hw
      | pred p => exact absurd rfl hw
      | newPred p => exact absurd rfl hw
      | quad => exact absurd rfl hw
      | ctl => exact absurd rfl hw
      | kw k => exact absurd rfl hw
      | imm n => exact absurd rfl hw
      | label l => exact absurd rfl hw

end Sys2Proof.Lexer
end

