-- ==== Sys2Proof/Laws/PerInstr.lean ====
section
/-!
SUPPORT. A statement about every instruction, one lemma per constructor: the tokens of its line read back as the
instruction (`spec/30_encoding.md` rules R52, R58), so that no operand and no modifier is lost between syntax and text.
-/

namespace Sys2Proof.Laws.LineRoundTrip

/-- The tokens of the instruction's line are read as that instruction. -/
def Statement (i : Instr) : Prop := readLine i.line.tokens = some i

theorem cmpbEqRr (pd : PReg) (rs rt : GReg) : Statement (.cmpbEqRr pd rs rt) := rfl
theorem cmpbEqRi (pd : PReg) (rs : GReg) (imm : Int) : Statement (.cmpbEqRi pd rs imm) := rfl
theorem cmphEqRr (pd : PReg) (rs rt : GReg) : Statement (.cmphEqRr pd rs rt) := rfl
theorem cmphEqRi (pd : PReg) (rs : GReg) (imm : Int) : Statement (.cmphEqRi pd rs imm) := rfl
theorem cmpEqRr (pd : PReg) (rs rt : GReg) : Statement (.cmpEqRr pd rs rt) := rfl
theorem ncmpEqRr (pd : PReg) (rs rt : GReg) : Statement (.ncmpEqRr pd rs rt) := rfl
theorem cmpEqRi (pd : PReg) (rs : GReg) (imm : Int) : Statement (.cmpEqRi pd rs imm) := rfl
theorem ncmpEqRi (pd : PReg) (rs : GReg) (imm : Int) : Statement (.ncmpEqRi pd rs imm) := rfl
theorem cmpEqPp (pd : PReg) (rss rtt : PairReg) : Statement (.cmpEqPp pd rss rtt) := rfl
theorem sfcmpEq (pd : PReg) (rs rt : GReg) : Statement (.sfcmpEq pd rs rt) := rfl
theorem dfcmpEq (pd : PReg) (rss rtt : PairReg) : Statement (.dfcmpEq pd rss rtt) := rfl
theorem cmpbGtRr (pd : PReg) (rs rt : GReg) : Statement (.cmpbGtRr pd rs rt) := rfl
theorem cmpbGtRi (pd : PReg) (rs : GReg) (imm : Int) : Statement (.cmpbGtRi pd rs imm) := rfl
theorem cmphGtRr (pd : PReg) (rs rt : GReg) : Statement (.cmphGtRr pd rs rt) := rfl
theorem cmphGtRi (pd : PReg) (rs : GReg) (imm : Int) : Statement (.cmphGtRi pd rs imm) := rfl
theorem cmpGtRr (pd : PReg) (rs rt : GReg) : Statement (.cmpGtRr pd rs rt) := rfl
theorem ncmpGtRr (pd : PReg) (rs rt : GReg) : Statement (.ncmpGtRr pd rs rt) := rfl
theorem cmpGtRi (pd : PReg) (rs : GReg) (imm : Int) : Statement (.cmpGtRi pd rs imm) := rfl
theorem ncmpGtRi (pd : PReg) (rs : GReg) (imm : Int) : Statement (.ncmpGtRi pd rs imm) := rfl
theorem cmpGtPp (pd : PReg) (rss rtt : PairReg) : Statement (.cmpGtPp pd rss rtt) := rfl
theorem sfcmpGt (pd : PReg) (rs rt : GReg) : Statement (.sfcmpGt pd rs rt) := rfl
theorem dfcmpGt (pd : PReg) (rss rtt : PairReg) : Statement (.dfcmpGt pd rss rtt) := rfl
theorem cmpbGtuRr (pd : PReg) (rs rt : GReg) : Statement (.cmpbGtuRr pd rs rt) := rfl
theorem cmpbGtuRi (pd : PReg) (rs : GReg) (imm : Int) : Statement (.cmpbGtuRi pd rs imm) := rfl
theorem cmphGtuRr (pd : PReg) (rs rt : GReg) : Statement (.cmphGtuRr pd rs rt) := rfl
theorem cmphGtuRi (pd : PReg) (rs : GReg) (imm : Int) : Statement (.cmphGtuRi pd rs imm) := rfl
theorem cmpGtuRr (pd : PReg) (rs rt : GReg) : Statement (.cmpGtuRr pd rs rt) := rfl
theorem ncmpGtuRr (pd : PReg) (rs rt : GReg) : Statement (.ncmpGtuRr pd rs rt) := rfl
theorem cmpGtuRi (pd : PReg) (rs : GReg) (imm : Int) : Statement (.cmpGtuRi pd rs imm) := rfl
theorem ncmpGtuRi (pd : PReg) (rs : GReg) (imm : Int) : Statement (.ncmpGtuRi pd rs imm) := rfl
theorem cmpGtuPp (pd : PReg) (rss rtt : PairReg) : Statement (.cmpGtuPp pd rss rtt) := rfl
theorem cmpGeRi (pd : PReg) (rs : GReg) (imm : Int) : Statement (.cmpGeRi pd rs imm) := rfl
theorem sfcmpGe (pd : PReg) (rs rt : GReg) : Statement (.sfcmpGe pd rs rt) := rfl
theorem dfcmpGe (pd : PReg) (rss rtt : PairReg) : Statement (.dfcmpGe pd rss rtt) := rfl
theorem cmpGeuRi (pd : PReg) (rs : GReg) (imm : Int) : Statement (.cmpGeuRi pd rs imm) := rfl
theorem cmpLtRr (pd : PReg) (rs rt : GReg) : Statement (.cmpLtRr pd rs rt) := rfl
theorem cmpLtuRr (pd : PReg) (rs rt : GReg) : Statement (.cmpLtuRr pd rs rt) := rfl
theorem sfcmpUo (pd : PReg) (rs rt : GReg) : Statement (.sfcmpUo pd rs rt) := rfl
theorem dfcmpUo (pd : PReg) (rss rtt : PairReg) : Statement (.dfcmpUo pd rss rtt) := rfl
theorem sfclass (pd : PReg) (rs : GReg) (imm : Int) : Statement (.sfclass pd rs imm) := rfl
theorem dfclass (pd : PReg) (rss : PairReg) (imm : Int) : Statement (.dfclass pd rss imm) := rfl
theorem tstbitRr (pd : PReg) (rs rt : GReg) : Statement (.tstbitRr pd rs rt) := rfl
theorem ntstbitRr (pd : PReg) (rs rt : GReg) : Statement (.ntstbitRr pd rs rt) := rfl
theorem tstbitRi (pd : PReg) (rs : GReg) (imm : Int) : Statement (.tstbitRi pd rs imm) := rfl
theorem ntstbitRi (pd : PReg) (rs : GReg) (imm : Int) : Statement (.ntstbitRi pd rs imm) := rfl
theorem bitsclrRr (pd : PReg) (rs rt : GReg) : Statement (.bitsclrRr pd rs rt) := rfl
theorem nbitsclrRr (pd : PReg) (rs rt : GReg) : Statement (.nbitsclrRr pd rs rt) := rfl
theorem bitsclrRi (pd : PReg) (rs : GReg) (imm : Int) : Statement (.bitsclrRi pd rs imm) := rfl
theorem nbitsclrRi (pd : PReg) (rs : GReg) (imm : Int) : Statement (.nbitsclrRi pd rs imm) := rfl
theorem bitssetRr (pd : PReg) (rs rt : GReg) : Statement (.bitssetRr pd rs rt) := rfl
theorem nbitssetRr (pd : PReg) (rs rt : GReg) : Statement (.nbitssetRr pd rs rt) := rfl
theorem memwLockedSt (rs : GReg) (pd : PReg) (rt : GReg) : Statement (.memwLockedSt rs pd rt) := rfl
theorem memdLockedSt (rs : GReg) (pd : PReg) (rtt : PairReg) : Statement (.memdLockedSt rs pd rtt) := rfl
theorem boundscheck (pd : PReg) (rs : GReg) (rtt : PairReg) : Statement (.boundscheck pd rs rtt) := rfl
theorem tlbmatch (pd : PReg) (rss : PairReg) (rt : GReg) : Statement (.tlbmatch pd rss rt) := rfl
theorem cmpEqToR (rd rs rt : GReg) : Statement (.cmpEqToR rd rs rt) := rfl
theorem tfrPp (pd ps : PReg) : Statement (.tfrPp pd ps) := rfl
theorem tfrPr (pd : PReg) (rs : GReg) : Statement (.tfrPr pd rs) := rfl
theorem tfrRp (rd : GReg) (ps : PReg) : Statement (.tfrRp rd ps) := rfl
theorem andPp (pd ps pt : PReg) : Statement (.andPp pd ps pt) := rfl
theorem andPpn (pd ps pt : PReg) : Statement (.andPpn pd ps pt) := rfl
theorem orPp (pd ps pt : PReg) : Statement (.orPp pd ps pt) := rfl
theorem orPpn (pd ps pt : PReg) : Statement (.orPpn pd ps pt) := rfl
theorem andAndPpp (pd ps pt pu : PReg) : Statement (.andAndPpp pd ps pt pu) := rfl
theorem andAndPppn (pd ps pt pu : PReg) : Statement (.andAndPppn pd ps pt pu) := rfl
theorem andOrPpp (pd ps pt pu : PReg) : Statement (.andOrPpp pd ps pt pu) := rfl
theorem andOrPppn (pd ps pt pu : PReg) : Statement (.andOrPppn pd ps pt pu) := rfl
theorem orAndPpp (pd ps pt pu : PReg) : Statement (.orAndPpp pd ps pt pu) := rfl
theorem orAndPppn (pd ps pt pu : PReg) : Statement (.orAndPppn pd ps pt pu) := rfl
theorem orOrPpp (pd ps pt pu : PReg) : Statement (.orOrPpp pd ps pt pu) := rfl
theorem orOrPppn (pd ps pt pu : PReg) : Statement (.orOrPppn pd ps pt pu) := rfl
theorem notP (pd ps : PReg) : Statement (.notP pd ps) := rfl
theorem xorPp (pd ps pt : PReg) : Statement (.xorPp pd ps pt) := rfl
theorem any8 (pd ps : PReg) : Statement (.any8 pd ps) := rfl
theorem all8 (pd ps : PReg) : Statement (.all8 pd ps) := rfl
theorem tfrP4r (rs : GReg) : Statement (.tfrP4r rs) := rfl
theorem tfrRp4 (rd : GReg) : Statement (.tfrRp4 rd) := rfl
theorem tfrC54 (rss : PairReg) : Statement (.tfrC54 rss) := rfl
theorem jump (lbl : Label) : Statement (.jump lbl) := rfl
theorem jumpIfT (pu : PReg) (lbl : Label) : Statement (.jumpIfT pu lbl) := rfl
theorem jumpIfF (pu : PReg) (lbl : Label) : Statement (.jumpIfF pu lbl) := rfl
theorem jumpIfTnew (pu : PReg) (lbl : Label) : Statement (.jumpIfTnew pu lbl) := rfl
theorem jumpIfFnew (pu : PReg) (lbl : Label) : Statement (.jumpIfFnew pu lbl) := rfl
theorem call (lbl : Label) : Statement (.call lbl) := rfl
theorem callIfT (pu : PReg) (lbl : Label) : Statement (.callIfT pu lbl) := rfl
theorem callIfF (pu : PReg) (lbl : Label) : Statement (.callIfF pu lbl) := rfl
theorem callIfTnew (pu : PReg) (lbl : Label) : Statement (.callIfTnew pu lbl) := rfl
theorem callIfFnew (pu : PReg) (lbl : Label) : Statement (.callIfFnew pu lbl) := rfl
theorem jumpr (rs : GReg) : Statement (.jumpr rs) := rfl
theorem jumprIfT (pu : PReg) (rs : GReg) : Statement (.jumprIfT pu rs) := rfl
theorem jumprIfF (pu : PReg) (rs : GReg) : Statement (.jumprIfF pu rs) := rfl
theorem jumprIfTnew (pu : PReg) (rs : GReg) : Statement (.jumprIfTnew pu rs) := rfl
theorem jumprIfFnew (pu : PReg) (rs : GReg) : Statement (.jumprIfFnew pu rs) := rfl
theorem callr (rs : GReg) : Statement (.callr rs) := rfl
theorem callrIfT (pu : PReg) (rs : GReg) : Statement (.callrIfT pu rs) := rfl
theorem callrIfF (pu : PReg) (rs : GReg) : Statement (.callrIfF pu rs) := rfl
theorem callrIfTnew (pu : PReg) (rs : GReg) : Statement (.callrIfTnew pu rs) := rfl
theorem callrIfFnew (pu : PReg) (rs : GReg) : Statement (.callrIfFnew pu rs) := rfl
theorem memwLd (rd rs : GReg) : Statement (.memwLd rd rs) := rfl
theorem memwLdIfT (pu : PReg) (rd rs : GReg) : Statement (.memwLdIfT pu rd rs) := rfl
theorem memwLdIfF (pu : PReg) (rd rs : GReg) : Statement (.memwLdIfF pu rd rs) := rfl
theorem memwLdIfTnew (pu : PReg) (rd rs : GReg) : Statement (.memwLdIfTnew pu rd rs) := rfl
theorem memwLdIfFnew (pu : PReg) (rd rs : GReg) : Statement (.memwLdIfFnew pu rd rs) := rfl
theorem memdLd (rdd : PairReg) (rs : GReg) : Statement (.memdLd rdd rs) := rfl
theorem memdLdIfT (pu : PReg) (rdd : PairReg) (rs : GReg) : Statement (.memdLdIfT pu rdd rs) := rfl
theorem memdLdIfF (pu : PReg) (rdd : PairReg) (rs : GReg) : Statement (.memdLdIfF pu rdd rs) := rfl
theorem memdLdIfTnew (pu : PReg) (rdd : PairReg) (rs : GReg) : Statement (.memdLdIfTnew pu rdd rs) := rfl
theorem memdLdIfFnew (pu : PReg) (rdd : PairReg) (rs : GReg) : Statement (.memdLdIfFnew pu rdd rs) := rfl
theorem membLd (rd rs : GReg) : Statement (.membLd rd rs) := rfl
theorem membLdIfT (pu : PReg) (rd rs : GReg) : Statement (.membLdIfT pu rd rs) := rfl
theorem membLdIfF (pu : PReg) (rd rs : GReg) : Statement (.membLdIfF pu rd rs) := rfl
theorem membLdIfTnew (pu : PReg) (rd rs : GReg) : Statement (.membLdIfTnew pu rd rs) := rfl
theorem membLdIfFnew (pu : PReg) (rd rs : GReg) : Statement (.membLdIfFnew pu rd rs) := rfl
theorem memubLd (rd rs : GReg) : Statement (.memubLd rd rs) := rfl
theorem memubLdIfT (pu : PReg) (rd rs : GReg) : Statement (.memubLdIfT pu rd rs) := rfl
theorem memubLdIfF (pu : PReg) (rd rs : GReg) : Statement (.memubLdIfF pu rd rs) := rfl
theorem memubLdIfTnew (pu : PReg) (rd rs : GReg) : Statement (.memubLdIfTnew pu rd rs) := rfl
theorem memubLdIfFnew (pu : PReg) (rd rs : GReg) : Statement (.memubLdIfFnew pu rd rs) := rfl
theorem memhLd (rd rs : GReg) : Statement (.memhLd rd rs) := rfl
theorem memhLdIfT (pu : PReg) (rd rs : GReg) : Statement (.memhLdIfT pu rd rs) := rfl
theorem memhLdIfF (pu : PReg) (rd rs : GReg) : Statement (.memhLdIfF pu rd rs) := rfl
theorem memhLdIfTnew (pu : PReg) (rd rs : GReg) : Statement (.memhLdIfTnew pu rd rs) := rfl
theorem memhLdIfFnew (pu : PReg) (rd rs : GReg) : Statement (.memhLdIfFnew pu rd rs) := rfl
theorem memuhLd (rd rs : GReg) : Statement (.memuhLd rd rs) := rfl
theorem memuhLdIfT (pu : PReg) (rd rs : GReg) : Statement (.memuhLdIfT pu rd rs) := rfl
theorem memuhLdIfF (pu : PReg) (rd rs : GReg) : Statement (.memuhLdIfF pu rd rs) := rfl
theorem memuhLdIfTnew (pu : PReg) (rd rs : GReg) : Statement (.memuhLdIfTnew pu rd rs) := rfl
theorem memuhLdIfFnew (pu : PReg) (rd rs : GReg) : Statement (.memuhLdIfFnew pu rd rs) := rfl
theorem memwSt (rs rt : GReg) : Statement (.memwSt rs rt) := rfl
theorem memwStIfT (pu : PReg) (rs rt : GReg) : Statement (.memwStIfT pu rs rt) := rfl
theorem memwStIfF (pu : PReg) (rs rt : GReg) : Statement (.memwStIfF pu rs rt) := rfl
theorem memwStIfTnew (pu : PReg) (rs rt : GReg) : Statement (.memwStIfTnew pu rs rt) := rfl
theorem memwStIfFnew (pu : PReg) (rs rt : GReg) : Statement (.memwStIfFnew pu rs rt) := rfl
theorem memdSt (rs : GReg) (rtt : PairReg) : Statement (.memdSt rs rtt) := rfl
theorem memdStIfT (pu : PReg) (rs : GReg) (rtt : PairReg) : Statement (.memdStIfT pu rs rtt) := rfl
theorem memdStIfF (pu : PReg) (rs : GReg) (rtt : PairReg) : Statement (.memdStIfF pu rs rtt) := rfl
theorem memdStIfTnew (pu : PReg) (rs : GReg) (rtt : PairReg) : Statement (.memdStIfTnew pu rs rtt) := rfl
theorem memdStIfFnew (pu : PReg) (rs : GReg) (rtt : PairReg) : Statement (.memdStIfFnew pu rs rtt) := rfl
theorem membSt (rs rt : GReg) : Statement (.membSt rs rt) := rfl
theorem membStIfT (pu : PReg) (rs rt : GReg) : Statement (.membStIfT pu rs rt) := rfl
theorem membStIfF (pu : PReg) (rs rt : GReg) : Statement (.membStIfF pu rs rt) := rfl
theorem membStIfTnew (pu : PReg) (rs rt : GReg) : Statement (.membStIfTnew pu rs rt) := rfl
theorem membStIfFnew (pu : PReg) (rs rt : GReg) : Statement (.membStIfFnew pu rs rt) := rfl
theorem memhSt (rs rt : GReg) : Statement (.memhSt rs rt) := rfl
theorem memhStIfT (pu : PReg) (rs rt : GReg) : Statement (.memhStIfT pu rs rt) := rfl
theorem memhStIfF (pu : PReg) (rs rt : GReg) : Statement (.memhStIfF pu rs rt) := rfl
theorem memhStIfTnew (pu : PReg) (rs rt : GReg) : Statement (.memhStIfTnew pu rs rt) := rfl
theorem memhStIfFnew (pu : PReg) (rs rt : GReg) : Statement (.memhStIfFnew pu rs rt) := rfl
theorem addRr (rd rs rt : GReg) : Statement (.addRr rd rs rt) := rfl
theorem addRrIfT (pu : PReg) (rd rs rt : GReg) : Statement (.addRrIfT pu rd rs rt) := rfl
theorem addRrIfF (pu : PReg) (rd rs rt : GReg) : Statement (.addRrIfF pu rd rs rt) := rfl
theorem addRrIfTnew (pu : PReg) (rd rs rt : GReg) : Statement (.addRrIfTnew pu rd rs rt) := rfl
theorem addRrIfFnew (pu : PReg) (rd rs rt : GReg) : Statement (.addRrIfFnew pu rd rs rt) := rfl
theorem addRi (rd rs : GReg) (imm : Int) : Statement (.addRi rd rs imm) := rfl
theorem addRiIfT (pu : PReg) (rd rs : GReg) (imm : Int) : Statement (.addRiIfT pu rd rs imm) := rfl
theorem addRiIfF (pu : PReg) (rd rs : GReg) (imm : Int) : Statement (.addRiIfF pu rd rs imm) := rfl
theorem addRiIfTnew (pu : PReg) (rd rs : GReg) (imm : Int) : Statement (.addRiIfTnew pu rd rs imm) := rfl
theorem addRiIfFnew (pu : PReg) (rd rs : GReg) (imm : Int) : Statement (.addRiIfFnew pu rd rs imm) := rfl
theorem subRr (rd rt rs : GReg) : Statement (.subRr rd rt rs) := rfl
theorem subRrIfT (pu : PReg) (rd rt rs : GReg) : Statement (.subRrIfT pu rd rt rs) := rfl
theorem subRrIfF (pu : PReg) (rd rt rs : GReg) : Statement (.subRrIfF pu rd rt rs) := rfl
theorem subRrIfTnew (pu : PReg) (rd rt rs : GReg) : Statement (.subRrIfTnew pu rd rt rs) := rfl
theorem subRrIfFnew (pu : PReg) (rd rt rs : GReg) : Statement (.subRrIfFnew pu rd rt rs) := rfl
theorem andRr (rd rs rt : GReg) : Statement (.andRr rd rs rt) := rfl
theorem andRrIfT (pu : PReg) (rd rs rt : GReg) : Statement (.andRrIfT pu rd rs rt) := rfl
theorem andRrIfF (pu : PReg) (rd rs rt : GReg) : Statement (.andRrIfF pu rd rs rt) := rfl
theorem andRrIfTnew (pu : PReg) (rd rs rt : GReg) : Statement (.andRrIfTnew pu rd rs rt) := rfl
theorem andRrIfFnew (pu : PReg) (rd rs rt : GReg) : Statement (.andRrIfFnew pu rd rs rt) := rfl
theorem orRr (rd rs rt : GReg) : Statement (.orRr rd rs rt) := rfl
theorem orRrIfT (pu : PReg) (rd rs rt : GReg) : Statement (.orRrIfT pu rd rs rt) := rfl
theorem orRrIfF (pu : PReg) (rd rs rt : GReg) : Statement (.orRrIfF pu rd rs rt) := rfl
theorem orRrIfTnew (pu : PReg) (rd rs rt : GReg) : Statement (.orRrIfTnew pu rd rs rt) := rfl
theorem orRrIfFnew (pu : PReg) (rd rs rt : GReg) : Statement (.orRrIfFnew pu rd rs rt) := rfl
theorem xorRr (rd rs rt : GReg) : Statement (.xorRr rd rs rt) := rfl
theorem xorRrIfT (pu : PReg) (rd rs rt : GReg) : Statement (.xorRrIfT pu rd rs rt) := rfl
theorem xorRrIfF (pu : PReg) (rd rs rt : GReg) : Statement (.xorRrIfF pu rd rs rt) := rfl
theorem xorRrIfTnew (pu : PReg) (rd rs rt : GReg) : Statement (.xorRrIfTnew pu rd rs rt) := rfl
theorem xorRrIfFnew (pu : PReg) (rd rs rt : GReg) : Statement (.xorRrIfFnew pu rd rs rt) := rfl
theorem aslh (rd rs : GReg) : Statement (.aslh rd rs) := rfl
theorem aslhIfT (pu : PReg) (rd rs : GReg) : Statement (.aslhIfT pu rd rs) := rfl
theorem aslhIfF (pu : PReg) (rd rs : GReg) : Statement (.aslhIfF pu rd rs) := rfl
theorem aslhIfTnew (pu : PReg) (rd rs : GReg) : Statement (.aslhIfTnew pu rd rs) := rfl
theorem aslhIfFnew (pu : PReg) (rd rs : GReg) : Statement (.aslhIfFnew pu rd rs) := rfl
theorem asrh (rd rs : GReg) : Statement (.asrh rd rs) := rfl
theorem asrhIfT (pu : PReg) (rd rs : GReg) : Statement (.asrhIfT pu rd rs) := rfl
theorem asrhIfF (pu : PReg) (rd rs : GReg) : Statement (.asrhIfF pu rd rs) := rfl
theorem asrhIfTnew (pu : PReg) (rd rs : GReg) : Statement (.asrhIfTnew pu rd rs) := rfl
theorem asrhIfFnew (pu : PReg) (rd rs : GReg) : Statement (.asrhIfFnew pu rd rs) := rfl
theorem sxtb (rd rs : GReg) : Statement (.sxtb rd rs) := rfl
theorem sxtbIfT (pu : PReg) (rd rs : GReg) : Statement (.sxtbIfT pu rd rs) := rfl
theorem sxtbIfF (pu : PReg) (rd rs : GReg) : Statement (.sxtbIfF pu rd rs) := rfl
theorem sxtbIfTnew (pu : PReg) (rd rs : GReg) : Statement (.sxtbIfTnew pu rd rs) := rfl
theorem sxtbIfFnew (pu : PReg) (rd rs : GReg) : Statement (.sxtbIfFnew pu rd rs) := rfl
theorem sxth (rd rs : GReg) : Statement (.sxth rd rs) := rfl
theorem sxthIfT (pu : PReg) (rd rs : GReg) : Statement (.sxthIfT pu rd rs) := rfl
theorem sxthIfF (pu : PReg) (rd rs : GReg) : Statement (.sxthIfF pu rd rs) := rfl
theorem sxthIfTnew (pu : PReg) (rd rs : GReg) : Statement (.sxthIfTnew pu rd rs) := rfl
theorem sxthIfFnew (pu : PReg) (rd rs : GReg) : Statement (.sxthIfFnew pu rd rs) := rfl
theorem zxtb (rd rs : GReg) : Statement (.zxtb rd rs) := rfl
theorem zxtbIfT (pu : PReg) (rd rs : GReg) : Statement (.zxtbIfT pu rd rs) := rfl
theorem zxtbIfF (pu : PReg) (rd rs : GReg) : Statement (.zxtbIfF pu rd rs) := rfl
theorem zxtbIfTnew (pu : PReg) (rd rs : GReg) : Statement (.zxtbIfTnew pu rd rs) := rfl
theorem zxtbIfFnew (pu : PReg) (rd rs : GReg) : Statement (.zxtbIfFnew pu rd rs) := rfl
theorem zxth (rd rs : GReg) : Statement (.zxth rd rs) := rfl
theorem zxthIfT (pu : PReg) (rd rs : GReg) : Statement (.zxthIfT pu rd rs) := rfl
theorem zxthIfF (pu : PReg) (rd rs : GReg) : Statement (.zxthIfF pu rd rs) := rfl
theorem zxthIfTnew (pu : PReg) (rd rs : GReg) : Statement (.zxthIfTnew pu rd rs) := rfl
theorem zxthIfFnew (pu : PReg) (rd rs : GReg) : Statement (.zxthIfFnew pu rd rs) := rfl
theorem tfr (rd rs : GReg) : Statement (.tfr rd rs) := rfl
theorem tfrIfT (pu : PReg) (rd rs : GReg) : Statement (.tfrIfT pu rd rs) := rfl
theorem tfrIfF (pu : PReg) (rd rs : GReg) : Statement (.tfrIfF pu rd rs) := rfl
theorem tfrIfTnew (pu : PReg) (rd rs : GReg) : Statement (.tfrIfTnew pu rd rs) := rfl
theorem tfrIfFnew (pu : PReg) (rd rs : GReg) : Statement (.tfrIfFnew pu rd rs) := rfl
theorem combine (rdd : PairReg) (rs rt : GReg) : Statement (.combine rdd rs rt) := rfl
theorem combineIfT (pu : PReg) (rdd : PairReg) (rs rt : GReg) : Statement (.combineIfT pu rdd rs rt) := rfl
theorem combineIfF (pu : PReg) (rdd : PairReg) (rs rt : GReg) : Statement (.combineIfF pu rdd rs rt) := rfl
theorem combineIfTnew (pu : PReg) (rdd : PairReg) (rs rt : GReg) : Statement (.combineIfTnew pu rdd rs rt) := rfl
theorem combineIfFnew (pu : PReg) (rdd : PairReg) (rs rt : GReg) : Statement (.combineIfFnew pu rdd rs rt) := rfl
theorem tfri (rd : GReg) (imm : Int) : Statement (.tfri rd imm) := rfl
theorem tfriIfT (pu : PReg) (rd : GReg) (imm : Int) : Statement (.tfriIfT pu rd imm) := rfl
theorem tfriIfF (pu : PReg) (rd : GReg) (imm : Int) : Statement (.tfriIfF pu rd imm) := rfl
theorem tfriIfTnew (pu : PReg) (rd : GReg) (imm : Int) : Statement (.tfriIfTnew pu rd imm) := rfl
theorem tfriIfFnew (pu : PReg) (rd : GReg) (imm : Int) : Statement (.tfriIfFnew pu rd imm) := rfl
theorem deallocReturn : Statement .deallocReturn := rfl
theorem deallocReturnIfT (pu : PReg) : Statement (.deallocReturnIfT pu) := rfl
theorem deallocReturnIfF (pu : PReg) : Statement (.deallocReturnIfF pu) := rfl
theorem deallocReturnIfTnew (pu : PReg) : Statement (.deallocReturnIfTnew pu) := rfl
theorem deallocReturnIfFnew (pu : PReg) : Statement (.deallocReturnIfFnew pu) := rfl
theorem muxRr (rd : GReg) (ps : PReg) (rs rt : GReg) : Statement (.muxRr rd ps rs rt) := rfl
theorem vcmpbEq (pd : PReg) (rss rtt : PairReg) : Statement (.vcmpbEq pd rss rtt) := rfl
theorem vcmphEq (pd : PReg) (rss rtt : PairReg) : Statement (.vcmphEq pd rss rtt) := rfl
theorem vcmpwEq (pd : PReg) (rss rtt : PairReg) : Statement (.vcmpwEq pd rss rtt) := rfl
theorem vcmpbGt (pd : PReg) (rss rtt : PairReg) : Statement (.vcmpbGt pd rss rtt) := rfl
theorem vcmpbGtu (pd : PReg) (rss rtt : PairReg) : Statement (.vcmpbGtu pd rss rtt) := rfl
theorem vcmphGt (pd : PReg) (rss rtt : PairReg) : Statement (.vcmphGt pd rss rtt) := rfl
theorem vcmphGtu (pd : PReg) (rss rtt : PairReg) : Statement (.vcmphGtu pd rss rtt) := rfl
theorem vcmpwGt (pd : PReg) (rss rtt : PairReg) : Statement (.vcmpwGt pd rss rtt) := rfl
theorem vcmpwGtu (pd : PReg) (rss rtt : PairReg) : Statement (.vcmpwGtu pd rss rtt) := rfl
theorem vmux (rdd : PairReg) (ps : PReg) (rss rtt : PairReg) : Statement (.vmux rdd ps rss rtt) := rfl

end Sys2Proof.Laws.LineRoundTrip
end

