-- ==== Sys2Proof/Tests/Slice0.lean ====
section
/-!
SUPPORT. The model's own tests: every constructor's decoding from a text written out from the spec's syntax, the checks of
well-formedness, the spec's test vectors for one step, and for each statement that has hypotheses a state that meets them.
-/

open Sys2Proof Sys2Proof.Machine Sys2Proof.Lexer

namespace Sys2Proof.Tests

-- One theorem at a time: many evaluations at once exhaust the threads.
set_option Elab.async false

/-! ### Decoding: every row of the opcode table -/

/-- Every text decodes to its instruction. -/
def reads (rows : List (String × Instr)) : Bool := rows.all fun r => decide (decode (ascii r.1) = .ok r.2)

/-- The spelling of every word, as characters. -/
theorem test_words : Kw.all.map Kw.text = [
    "if", "jump:T", "jump:NT", "cmpb.eq", "cmph.eq", "cmp.eq", "sfcmp.eq", "dfcmp.eq", "cmpb.gt", "cmph.gt",
    "cmp.gt", "sfcmp.gt", "dfcmp.gt", "cmpb.gtu", "cmph.gtu", "cmp.gtu", "cmp.ge", "sfcmp.ge", "dfcmp.ge",
    "cmp.geu", "cmp.lt", "cmp.ltu", "sfcmp.uo", "dfcmp.uo", "sfclass", "dfclass", "tstbit", "bitsclr", "bitsset",
    "memw_locked", "memd_locked", "boundscheck", "tlbmatch", "and", "or", "not", "xor", "any8", "all8", "jump",
    "call", "jumpr", "callr", "memw", "memd", "memb", "memub", "memh", "memuh", "add", "sub", "aslh", "asrh",
    "sxtb", "sxth", "zxtb", "zxth", "combine", "dealloc_return", "mux", "vcmpb.eq", "vcmph.eq", "vcmpw.eq",
    "vcmpb.gt", "vcmpb.gtu", "vcmph.gt", "vcmph.gtu", "vcmpw.gt", "vcmpw.gtu", "vmux"].map ascii := by decide +kernel

/-- The equality compares: texts written out from the syntax of `spec/30_encoding.md` R54 and `spec/opcode_table.json`. -/
theorem test_decode_equality_compares : reads [
    ("P1 = cmpb.eq(R5,R31)", .cmpbEqRr 1 5 31),
    ("P1 = cmpb.eq(R5,#9)", .cmpbEqRi 1 5 9),
    ("P1 = cmph.eq(R5,R31)", .cmphEqRr 1 5 31),
    ("P1 = cmph.eq(R5,#-7)", .cmphEqRi 1 5 (-7)),
    ("P1 = cmp.eq(R5,R31)", .cmpEqRr 1 5 31),
    ("P1 = !cmp.eq(R5,R31)", .ncmpEqRr 1 5 31),
    ("P1 = cmp.eq(R5,#-7)", .cmpEqRi 1 5 (-7)),
    ("P1 = !cmp.eq(R5,#-7)", .ncmpEqRi 1 5 (-7)),
    ("P1 = cmp.eq(R11:10,R31:30)", .cmpEqPp 1 5 15),
    ("P1 = sfcmp.eq(R5,R31)", .sfcmpEq 1 5 31),
    ("P1 = dfcmp.eq(R11:10,R31:30)", .dfcmpEq 1 5 15)] = true := by decide +kernel

/-- The greater compares: texts written out from the syntax of `spec/30_encoding.md` R54 and `spec/opcode_table.json`. -/
theorem test_decode_greater_compares : reads [
    ("P1 = cmpb.gt(R5,R31)", .cmpbGtRr 1 5 31),
    ("P1 = cmpb.gt(R5,#-7)", .cmpbGtRi 1 5 (-7)),
    ("P1 = cmph.gt(R5,R31)", .cmphGtRr 1 5 31),
    ("P1 = cmph.gt(R5,#-7)", .cmphGtRi 1 5 (-7)),
    ("P1 = cmp.gt(R5,R31)", .cmpGtRr 1 5 31),
    ("P1 = !cmp.gt(R5,R31)", .ncmpGtRr 1 5 31),
    ("P1 = cmp.gt(R5,#-7)", .cmpGtRi 1 5 (-7)),
    ("P1 = !cmp.gt(R5,#-7)", .ncmpGtRi 1 5 (-7)),
    ("P1 = cmp.gt(R11:10,R31:30)", .cmpGtPp 1 5 15),
    ("P1 = sfcmp.gt(R5,R31)", .sfcmpGt 1 5 31),
    ("P1 = dfcmp.gt(R11:10,R31:30)", .dfcmpGt 1 5 15)] = true := by decide +kernel

/-- The other compares: texts written out from the syntax of `spec/30_encoding.md` R54 and `spec/opcode_table.json`. -/
theorem test_decode_other_compares : reads [
    ("P1 = cmpb.gtu(R5,R31)", .cmpbGtuRr 1 5 31),
    ("P1 = cmpb.gtu(R5,#9)", .cmpbGtuRi 1 5 9),
    ("P1 = cmph.gtu(R5,R31)", .cmphGtuRr 1 5 31),
    ("P1 = cmph.gtu(R5,#9)", .cmphGtuRi 1 5 9),
    ("P1 = cmp.gtu(R5,R31)", .cmpGtuRr 1 5 31),
    ("P1 = !cmp.gtu(R5,R31)", .ncmpGtuRr 1 5 31),
    ("P1 = cmp.gtu(R5,#9)", .cmpGtuRi 1 5 9),
    ("P1 = !cmp.gtu(R5,#9)", .ncmpGtuRi 1 5 9),
    ("P1 = cmp.gtu(R11:10,R31:30)", .cmpGtuPp 1 5 15),
    ("P1 = cmp.ge(R5,#-7)", .cmpGeRi 1 5 (-7)),
    ("P1 = sfcmp.ge(R5,R31)", .sfcmpGe 1 5 31),
    ("P1 = dfcmp.ge(R11:10,R31:30)", .dfcmpGe 1 5 15),
    ("P1 = cmp.geu(R5,#9)", .cmpGeuRi 1 5 9),
    ("P1 = cmp.lt(R5,R31)", .cmpLtRr 1 5 31),
    ("P1 = cmp.ltu(R5,R31)", .cmpLtuRr 1 5 31),
    ("P1 = sfcmp.uo(R5,R31)", .sfcmpUo 1 5 31),
    ("P1 = dfcmp.uo(R11:10,R31:30)", .dfcmpUo 1 5 15)] = true := by decide +kernel

/-- The bit tests and others: texts written out from the syntax of `spec/30_encoding.md` R54 and `spec/opcode_table.json`. -/
theorem test_decode_bit_tests_and_others : reads [
    ("P1 = sfclass(R5,#9)", .sfclass 1 5 9),
    ("P1 = dfclass(R11:10,#9)", .dfclass 1 5 9),
    ("P1 = tstbit(R5,R31)", .tstbitRr 1 5 31),
    ("P1 = !tstbit(R5,R31)", .ntstbitRr 1 5 31),
    ("P1 = tstbit(R5,#9)", .tstbitRi 1 5 9),
    ("P1 = !tstbit(R5,#9)", .ntstbitRi 1 5 9),
    ("P1 = bitsclr(R5,R31)", .bitsclrRr 1 5 31),
    ("P1 = !bitsclr(R5,R31)", .nbitsclrRr 1 5 31),
    ("P1 = bitsclr(R5,#9)", .bitsclrRi 1 5 9),
    ("P1 = !bitsclr(R5,#9)", .nbitsclrRi 1 5 9),
    ("P1 = bitsset(R5,R31)", .bitssetRr 1 5 31),
    ("P1 = !bitsset(R5,R31)", .nbitssetRr 1 5 31),
    ("memw_locked(R5,P1) = R31", .memwLockedSt 5 1 31),
    ("memd_locked(R5,P1) = R31:30", .memdLockedSt 5 1 15),
    ("P1 = boundscheck(R5,R31:30)", .boundscheck 1 5 15),
    ("P1 = tlbmatch(R11:10,R31)", .tlbmatch 1 5 31),
    ("R4 = cmp.eq(R5,R31)", .cmpEqToR 4 5 31)] = true := by decide +kernel

/-- The predicate operations: texts written out from the syntax of `spec/30_encoding.md` R54 and `spec/opcode_table.json`. -/
theorem test_decode_predicate_operations : reads [
    ("P1 = P2", .tfrPp 1 2),
    ("P1 = R5", .tfrPr 1 5),
    ("R4 = P2", .tfrRp 4 2),
    ("P1 = and(P2,P3)", .andPp 1 2 3),
    ("P1 = and(P2,!P3)", .andPpn 1 2 3),
    ("P1 = or(P2,P3)", .orPp 1 2 3),
    ("P1 = or(P2,!P3)", .orPpn 1 2 3),
    ("P1 = and(P2,and(P3,P0))", .andAndPpp 1 2 3 0),
    ("P1 = and(P2,and(P3,!P0))", .andAndPppn 1 2 3 0),
    ("P1 = and(P2,or(P3,P0))", .andOrPpp 1 2 3 0),
    ("P1 = and(P2,or(P3,!P0))", .andOrPppn 1 2 3 0),
    ("P1 = or(P2,and(P3,P0))", .orAndPpp 1 2 3 0),
    ("P1 = or(P2,and(P3,!P0))", .orAndPppn 1 2 3 0),
    ("P1 = or(P2,or(P3,P0))", .orOrPpp 1 2 3 0),
    ("P1 = or(P2,or(P3,!P0))", .orOrPppn 1 2 3 0),
    ("P1 = not(P2)", .notP 1 2),
    ("P1 = xor(P2,P3)", .xorPp 1 2 3),
    ("P1 = any8(P2)", .any8 1 2),
    ("P1 = all8(P2)", .all8 1 2),
    ("P3:0 = R5", .tfrP4r 5),
    ("R4 = P3:0", .tfrRp4 4),
    ("C5:4 = R11:10", .tfrC54 5)] = true := by decide +kernel

/-- The control transfers: texts written out from the syntax of `spec/30_encoding.md` R54 and `spec/opcode_table.json`. -/
theorem test_decode_control_transfers : reads [
    ("jump loop_1", .jump (ascii "loop_1")),
    ("if (P0) jump loop_1", .jumpIfT 0 (ascii "loop_1")),
    ("if (!P0) jump loop_1", .jumpIfF 0 (ascii "loop_1")),
    ("if (P0.new) jump:NT loop_1", .jumpIfTnew 0 (ascii "loop_1")),
    ("if (!P0.new) jump:NT loop_1", .jumpIfFnew 0 (ascii "loop_1")),
    ("call loop_1", .call (ascii "loop_1")),
    ("if (P0) call loop_1", .callIfT 0 (ascii "loop_1")),
    ("if (!P0) call loop_1", .callIfF 0 (ascii "loop_1")),
    ("if (P0.new) call loop_1", .callIfTnew 0 (ascii "loop_1")),
    ("if (!P0.new) call loop_1", .callIfFnew 0 (ascii "loop_1")),
    ("jumpr R5", .jumpr 5),
    ("if (P0) jumpr R5", .jumprIfT 0 5),
    ("if (!P0) jumpr R5", .jumprIfF 0 5),
    ("if (P0.new) jumpr R5", .jumprIfTnew 0 5),
    ("if (!P0.new) jumpr R5", .jumprIfFnew 0 5),
    ("callr R5", .callr 5),
    ("if (P0) callr R5", .callrIfT 0 5),
    ("if (!P0) callr R5", .callrIfF 0 5),
    ("if (P0.new) callr R5", .callrIfTnew 0 5),
    ("if (!P0.new) callr R5", .callrIfFnew 0 5),
    ("dealloc_return", .deallocReturn),
    ("if (P0) dealloc_return", .deallocReturnIfT 0),
    ("if (!P0) dealloc_return", .deallocReturnIfF 0),
    ("if (P0.new) dealloc_return", .deallocReturnIfTnew 0),
    ("if (!P0.new) dealloc_return", .deallocReturnIfFnew 0)] = true := by decide +kernel

/-- The loads: texts written out from the syntax of `spec/30_encoding.md` R54 and `spec/opcode_table.json`. -/
theorem test_decode_loads : reads [
    ("R4 = memw(R5)", .memwLd 4 5),
    ("if (P0) R4 = memw(R5)", .memwLdIfT 0 4 5),
    ("if (!P0) R4 = memw(R5)", .memwLdIfF 0 4 5),
    ("if (P0.new) R4 = memw(R5)", .memwLdIfTnew 0 4 5),
    ("if (!P0.new) R4 = memw(R5)", .memwLdIfFnew 0 4 5),
    ("R9:8 = memd(R5)", .memdLd 4 5),
    ("if (P0) R9:8 = memd(R5)", .memdLdIfT 0 4 5),
    ("if (!P0) R9:8 = memd(R5)", .memdLdIfF 0 4 5),
    ("if (P0.new) R9:8 = memd(R5)", .memdLdIfTnew 0 4 5),
    ("if (!P0.new) R9:8 = memd(R5)", .memdLdIfFnew 0 4 5),
    ("R4 = memb(R5)", .membLd 4 5),
    ("if (P0) R4 = memb(R5)", .membLdIfT 0 4 5),
    ("if (!P0) R4 = memb(R5)", .membLdIfF 0 4 5),
    ("if (P0.new) R4 = memb(R5)", .membLdIfTnew 0 4 5),
    ("if (!P0.new) R4 = memb(R5)", .membLdIfFnew 0 4 5),
    ("R4 = memub(R5)", .memubLd 4 5),
    ("if (P0) R4 = memub(R5)", .memubLdIfT 0 4 5),
    ("if (!P0) R4 = memub(R5)", .memubLdIfF 0 4 5),
    ("if (P0.new) R4 = memub(R5)", .memubLdIfTnew 0 4 5),
    ("if (!P0.new) R4 = memub(R5)", .memubLdIfFnew 0 4 5),
    ("R4 = memh(R5)", .memhLd 4 5),
    ("if (P0) R4 = memh(R5)", .memhLdIfT 0 4 5),
    ("if (!P0) R4 = memh(R5)", .memhLdIfF 0 4 5),
    ("if (P0.new) R4 = memh(R5)", .memhLdIfTnew 0 4 5),
    ("if (!P0.new) R4 = memh(R5)", .memhLdIfFnew 0 4 5),
    ("R4 = memuh(R5)", .memuhLd 4 5),
    ("if (P0) R4 = memuh(R5)", .memuhLdIfT 0 4 5),
    ("if (!P0) R4 = memuh(R5)", .memuhLdIfF 0 4 5),
    ("if (P0.new) R4 = memuh(R5)", .memuhLdIfTnew 0 4 5),
    ("if (!P0.new) R4 = memuh(R5)", .memuhLdIfFnew 0 4 5)] = true := by decide +kernel

/-- The stores: texts written out from the syntax of `spec/30_encoding.md` R54 and `spec/opcode_table.json`. -/
theorem test_decode_stores : reads [
    ("memw(R5) = R31", .memwSt 5 31),
    ("if (P0) memw(R5) = R31", .memwStIfT 0 5 31),
    ("if (!P0) memw(R5) = R31", .memwStIfF 0 5 31),
    ("if (P0.new) memw(R5) = R31", .memwStIfTnew 0 5 31),
    ("if (!P0.new) memw(R5) = R31", .memwStIfFnew 0 5 31),
    ("memd(R5) = R31:30", .memdSt 5 15),
    ("if (P0) memd(R5) = R31:30", .memdStIfT 0 5 15),
    ("if (!P0) memd(R5) = R31:30", .memdStIfF 0 5 15),
    ("if (P0.new) memd(R5) = R31:30", .memdStIfTnew 0 5 15),
    ("if (!P0.new) memd(R5) = R31:30", .memdStIfFnew 0 5 15),
    ("memb(R5) = R31", .membSt 5 31),
    ("if (P0) memb(R5) = R31", .membStIfT 0 5 31),
    ("if (!P0) memb(R5) = R31", .membStIfF 0 5 31),
    ("if (P0.new) memb(R5) = R31", .membStIfTnew 0 5 31),
    ("if (!P0.new) memb(R5) = R31", .membStIfFnew 0 5 31),
    ("memh(R5) = R31", .memhSt 5 31),
    ("if (P0) memh(R5) = R31", .memhStIfT 0 5 31),
    ("if (!P0) memh(R5) = R31", .memhStIfF 0 5 31),
    ("if (P0.new) memh(R5) = R31", .memhStIfTnew 0 5 31),
    ("if (!P0.new) memh(R5) = R31", .memhStIfFnew 0 5 31)] = true := by decide +kernel

/-- The sums: texts written out from the syntax of `spec/30_encoding.md` R54 and `spec/opcode_table.json`. -/
theorem test_decode_sums : reads [
    ("R4 = add(R5,R31)", .addRr 4 5 31),
    ("if (P0) R4 = add(R5,R31)", .addRrIfT 0 4 5 31),
    ("if (!P0) R4 = add(R5,R31)", .addRrIfF 0 4 5 31),
    ("if (P0.new) R4 = add(R5,R31)", .addRrIfTnew 0 4 5 31),
    ("if (!P0.new) R4 = add(R5,R31)", .addRrIfFnew 0 4 5 31),
    ("R4 = add(R5,#-7)", .addRi 4 5 (-7)),
    ("if (P0) R4 = add(R5,#-7)", .addRiIfT 0 4 5 (-7)),
    ("if (!P0) R4 = add(R5,#-7)", .addRiIfF 0 4 5 (-7)),
    ("if (P0.new) R4 = add(R5,#-7)", .addRiIfTnew 0 4 5 (-7)),
    ("if (!P0.new) R4 = add(R5,#-7)", .addRiIfFnew 0 4 5 (-7)),
    ("R4 = sub(R31,R5)", .subRr 4 31 5),
    ("if (P0) R4 = sub(R31,R5)", .subRrIfT 0 4 31 5),
    ("if (!P0) R4 = sub(R31,R5)", .subRrIfF 0 4 31 5),
    ("if (P0.new) R4 = sub(R31,R5)", .subRrIfTnew 0 4 31 5),
    ("if (!P0.new) R4 = sub(R31,R5)", .subRrIfFnew 0 4 31 5)] = true := by decide +kernel

/-- The logical operations: texts written out from the syntax of `spec/30_encoding.md` R54 and `spec/opcode_table.json`. -/
theorem test_decode_logical_operations : reads [
    ("R4 = and(R5,R31)", .andRr 4 5 31),
    ("if (P0) R4 = and(R5,R31)", .andRrIfT 0 4 5 31),
    ("if (!P0) R4 = and(R5,R31)", .andRrIfF 0 4 5 31),
    ("if (P0.new) R4 = and(R5,R31)", .andRrIfTnew 0 4 5 31),
    ("if (!P0.new) R4 = and(R5,R31)", .andRrIfFnew 0 4 5 31),
    ("R4 = or(R5,R31)", .orRr 4 5 31),
    ("if (P0) R4 = or(R5,R31)", .orRrIfT 0 4 5 31),
    ("if (!P0) R4 = or(R5,R31)", .orRrIfF 0 4 5 31),
    ("if (P0.new) R4 = or(R5,R31)", .orRrIfTnew 0 4 5 31),
    ("if (!P0.new) R4 = or(R5,R31)", .orRrIfFnew 0 4 5 31),
    ("R4 = xor(R5,R31)", .xorRr 4 5 31),
    ("if (P0) R4 = xor(R5,R31)", .xorRrIfT 0 4 5 31),
    ("if (!P0) R4 = xor(R5,R31)", .xorRrIfF 0 4 5 31),
    ("if (P0.new) R4 = xor(R5,R31)", .xorRrIfTnew 0 4 5 31),
    ("if (!P0.new) R4 = xor(R5,R31)", .xorRrIfFnew 0 4 5 31)] = true := by decide +kernel

/-- The shifts and extensions: texts written out from the syntax of `spec/30_encoding.md` R54 and `spec/opcode_table.json`. -/
theorem test_decode_shifts_and_extensions : reads [
    ("R4 = aslh(R5)", .aslh 4 5),
    ("if (P0) R4 = aslh(R5)", .aslhIfT 0 4 5),
    ("if (!P0) R4 = aslh(R5)", .aslhIfF 0 4 5),
    ("if (P0.new) R4 = aslh(R5)", .aslhIfTnew 0 4 5),
    ("if (!P0.new) R4 = aslh(R5)", .aslhIfFnew 0 4 5),
    ("R4 = asrh(R5)", .asrh 4 5),
    ("if (P0) R4 = asrh(R5)", .asrhIfT 0 4 5),
    ("if (!P0) R4 = asrh(R5)", .asrhIfF 0 4 5),
    ("if (P0.new) R4 = asrh(R5)", .asrhIfTnew 0 4 5),
    ("if (!P0.new) R4 = asrh(R5)", .asrhIfFnew 0 4 5),
    ("R4 = sxtb(R5)", .sxtb 4 5),
    ("if (P0) R4 = sxtb(R5)", .sxtbIfT 0 4 5),
    ("if (!P0) R4 = sxtb(R5)", .sxtbIfF 0 4 5),
    ("if (P0.new) R4 = sxtb(R5)", .sxtbIfTnew 0 4 5),
    ("if (!P0.new) R4 = sxtb(R5)", .sxtbIfFnew 0 4 5),
    ("R4 = sxth(R5)", .sxth 4 5),
    ("if (P0) R4 = sxth(R5)", .sxthIfT 0 4 5),
    ("if (!P0) R4 = sxth(R5)", .sxthIfF 0 4 5),
    ("if (P0.new) R4 = sxth(R5)", .sxthIfTnew 0 4 5),
    ("if (!P0.new) R4 = sxth(R5)", .sxthIfFnew 0 4 5),
    ("R4 = zxtb(R5)", .zxtb 4 5),
    ("if (P0) R4 = zxtb(R5)", .zxtbIfT 0 4 5),
    ("if (!P0) R4 = zxtb(R5)", .zxtbIfF 0 4 5),
    ("if (P0.new) R4 = zxtb(R5)", .zxtbIfTnew 0 4 5),
    ("if (!P0.new) R4 = zxtb(R5)", .zxtbIfFnew 0 4 5),
    ("R4 = zxth(R5)", .zxth 4 5),
    ("if (P0) R4 = zxth(R5)", .zxthIfT 0 4 5),
    ("if (!P0) R4 = zxth(R5)", .zxthIfF 0 4 5),
    ("if (P0.new) R4 = zxth(R5)", .zxthIfTnew 0 4 5),
    ("if (!P0.new) R4 = zxth(R5)", .zxthIfFnew 0 4 5)] = true := by decide +kernel

/-- The transfers: texts written out from the syntax of `spec/30_encoding.md` R54 and `spec/opcode_table.json`. -/
theorem test_decode_transfers : reads [
    ("R4 = R5", .tfr 4 5),
    ("if (P0) R4 = R5", .tfrIfT 0 4 5),
    ("if (!P0) R4 = R5", .tfrIfF 0 4 5),
    ("if (P0.new) R4 = R5", .tfrIfTnew 0 4 5),
    ("if (!P0.new) R4 = R5", .tfrIfFnew 0 4 5),
    ("R9:8 = combine(R5,R31)", .combine 4 5 31),
    ("if (P0) R9:8 = combine(R5,R31)", .combineIfT 0 4 5 31),
    ("if (!P0) R9:8 = combine(R5,R31)", .combineIfF 0 4 5 31),
    ("if (P0.new) R9:8 = combine(R5,R31)", .combineIfTnew 0 4 5 31),
    ("if (!P0.new) R9:8 = combine(R5,R31)", .combineIfFnew 0 4 5 31),
    ("R4 = #-7", .tfri 4 (-7)),
    ("if (P0) R4 = #-7", .tfriIfT 0 4 (-7)),
    ("if (!P0) R4 = #-7", .tfriIfF 0 4 (-7)),
    ("if (P0.new) R4 = #-7", .tfriIfTnew 0 4 (-7)),
    ("if (!P0.new) R4 = #-7", .tfriIfFnew 0 4 (-7)),
    ("R4 = mux(P2,R5,R31)", .muxRr 4 2 5 31)] = true := by decide +kernel

/-- The vector instructions: texts written out from the syntax of `spec/30_encoding.md` R54 and `spec/opcode_table.json`. -/
theorem test_decode_vector_instructions : reads [
    ("P1 = vcmpb.eq(R11:10,R31:30)", .vcmpbEq 1 5 15),
    ("P1 = vcmph.eq(R11:10,R31:30)", .vcmphEq 1 5 15),
    ("P1 = vcmpw.eq(R11:10,R31:30)", .vcmpwEq 1 5 15),
    ("P1 = vcmpb.gt(R11:10,R31:30)", .vcmpbGt 1 5 15),
    ("P1 = vcmpb.gtu(R11:10,R31:30)", .vcmpbGtu 1 5 15),
    ("P1 = vcmph.gt(R11:10,R31:30)", .vcmphGt 1 5 15),
    ("P1 = vcmph.gtu(R11:10,R31:30)", .vcmphGtu 1 5 15),
    ("P1 = vcmpw.gt(R11:10,R31:30)", .vcmpwGt 1 5 15),
    ("P1 = vcmpw.gtu(R11:10,R31:30)", .vcmpwGtu 1 5 15),
    ("R9:8 = vmux(P2,R11:10,R31:30)", .vmux 4 2 5 15)] = true := by decide +kernel

/-- Texts that spell no instruction are refused by name. -/
theorem test_decode_refusals :
    decode (ascii "R1:0 = C5:4") = .error .noSuchInstruction ∧ decode (ascii "R2:1 = memd(R3)") = .error .notTokens ∧
    decode (ascii "R32 = R1") = .error .noSuchInstruction ∧ decode (ascii "") = .error .noSuchInstruction ∧
    decode (ascii "P0 = cmp.eq(R1,R2") = .error .noSuchInstruction ∧
    decode (ascii "if (P0) P1 = P2") = .error .noSuchInstruction := by decide +kernel

/-! ### Well-formedness: an ill-formed term for each check -/

/-- A signed and an unsigned immediate just outside its range, and a guarded form with its narrower range (R53, R220). -/
theorem test_wellFormed_immediates :
    (Instr.cmpEqRi 0 1 512).wellFormed = false ∧ (Instr.cmpEqRi 0 1 511).wellFormed = true ∧
    (Instr.cmpEqRi 0 1 (-513)).wellFormed = false ∧ (Instr.cmpbEqRi 0 1 (-1)).wellFormed = false ∧
    (Instr.addRiIfT 0 1 1 128).wellFormed = false ∧ (Instr.addRi 1 1 128).wellFormed = true := by decide +kernel

/-- A label that is no name (R60), or that another word of the syntax hides. -/
theorem test_wellFormed_labels :
    (Instr.jump []).wellFormed = false ∧ (Instr.jump (ascii "1st")).wellFormed = false ∧
    (Instr.jump (ascii "R1")).wellFormed = false ∧ (Instr.call (ascii "a b")).wellFormed = false ∧
    (Instr.jump (ascii "taken_path")).wellFormed = true := by decide +kernel

/-! ### One step: test vectors of `spec/95_test_vectors.md` -/

/-- A state at `0x100`, with the given registers and predicates, the program being one packet of the given lines there
and one packet with the label `L` at `0x200`; reads of the word at `0xDEAD0000` and writes of that at `0xDEAD0008` are denied. -/
def put (regs : List (GReg × Word)) (preds : List (PReg × Byte)) (lines : List String) : State :=
  { State.reset with
    regs := regs.foldl (fun v w => v.set w.1.val w.2) State.reset.regs,
    preds := preds.foldl (fun v w => v.set w.1.val w.2) State.reset.preds,
    pc := 0x100#32,
    mem := Memory.putBytes [] 0x1000 [0x78#8, 0x56#8, 0x34#8, 0x12#8, 0x04#8, 0x03#8, 0x02#8, 0xF1#8],
    launch := { Launch.default with
      packets := [{ addr := 0x100#32, labels := [], lines := lines.map ascii },
        { addr := 0x200#32, labels := [ascii "L"], lines := [ascii "R0 = #1"] }],
      denied := [{ kind := .read, size := 4, first := 0xDEAD0000, last := 0xDEAD0003 },
        { kind := .write, size := 4, first := 0xDEAD0008, last := 0xDEAD000B }],
      tlbmatchOn := true, gkOn := true } }

/-- The step from `put regs preds lines` leads to a state with these registers, predicates and pc. -/
def leads (regs : List (GReg × Word)) (preds : List (PReg × Byte)) (lines : List String) (regs' : List (GReg × Word))
    (preds' : List (PReg × Byte)) (pc' : Word) : Bool :=
  match step (put regs preds lines) with
  | .next t => regs'.all (fun w => t.reg w.1 == w.2) && preds'.all (fun w => t.pred w.1 == w.2) && t.pc == pc'
  | .fault _ => false
  | .refused _ => false

/-- One instruction that writes P0: the result for each row of text, registers and expected value. -/
def resultP0 (rows : List (String × List (GReg × Word) × Byte)) : Bool :=
  rows.all fun r => leads r.2.1 [] [r.1] r.2.1 [(0, r.2.2)] 0x104#32

/-- One instruction that writes R0: the result for each row of text, registers and expected value. -/
def resultR0 (rows : List (String × List (GReg × Word) × Word)) : Bool :=
  rows.all fun r => leads r.2.1 [(0, 0xFF#8)] [r.1] [(0, r.2.2)] [(0, 0xFF#8)] 0x104#32

/-- V40-1 to V40-15, V40-20 to V40-33, V40-37 to V40-41, V40-44 to V40-47: the integer compares. -/
theorem test_equality_vectors : resultP0 [
    ("P0 = cmpb.eq(R1,R2)", [(1, 0x12345678), (2, 0xFFFFFF78)], 0xFF),
    ("P0 = cmpb.eq(R1,#255)", [(1, 0x1FF)], 0xFF),
    ("P0 = cmpb.eq(R1,#1)", [(1, 0x1FF)], 0x00),
    ("P0 = cmph.eq(R1,R2)", [(1, 0xAAAA1234), (2, 0xBBBB1234)], 0xFF),
    ("P0 = cmph.eq(R1,#-1)", [(1, 0xFFFF)], 0xFF),
    ("P0 = cmph.eq(R1,#-1)", [(1, 0xFF)], 0x00),
    ("P0 = !cmp.eq(R2,R3)", [(2, 4), (3, 4)], 0x00),
    ("P0 = cmp.eq(R2,#4)", [(2, 7)], 0x00),
    ("P0 = cmp.eq(R2,#-512)", [(2, 0xFFFFFE00)], 0xFF),
    ("P0 = !cmp.eq(R0,#1)", [(0, 3)], 0xFF),
    ("P0 = cmp.eq(R1:0,R3:2)", [(1, 1)], 0x00)] = true := by decide +kernel

theorem test_greater_vectors : resultP0 [
    ("P0 = cmpb.gt(R1,R2)", [(1, 0x80), (2, 0x7F)], 0x00),
    ("P0 = cmpb.gtu(R1,R2)", [(1, 0x80), (2, 0x7F)], 0xFF),
    ("P0 = cmpb.gt(R1,#-2)", [(1, 0xFF)], 0xFF),
    ("P0 = cmph.gt(R1,R2)", [(1, 0x8000)], 0x00),
    ("P0 = cmph.gtu(R1,R2)", [(1, 0x8000), (2, 0x7FFF)], 0xFF),
    ("P0 = cmp.gt(R1,R2)", [(1, 0x80000000), (2, 0x7FFFFFFF)], 0x00),
    ("P0 = cmp.gtu(R1,R2)", [(1, 0x80000000), (2, 0x7FFFFFFF)], 0xFF),
    ("P0 = !cmp.gt(R1,R2)", [(1, 5), (2, 5)], 0xFF),
    ("P0 = cmp.gt(R0,#-1)", [(0, 0xFFFFFFFF)], 0x00),
    ("P0 = !cmp.gt(R0,#99)", [(0, 100)], 0x00),
    ("P0 = cmp.gt(R1:0,R3:2)", [(2, 0xFFFFFFFF), (3, 0xFFFFFFFF)], 0xFF),
    ("P0 = cmp.gtu(R1:0,R3:2)", [(0, 0xFFFFFFFF), (1, 0xFFFFFFFF)], 0xFF)] = true := by decide +kernel

theorem test_unsigned_and_other_vectors : resultP0 [
    ("P0 = cmp.gtu(R1,#511)", [(1, 0xFFFFFFFF)], 0xFF),
    ("P0 = cmp.gtu(R1,#511)", [(1, 511)], 0x00),
    ("P0 = !cmp.gtu(R1,#0)", [], 0xFF),
    ("P0 = cmp.ge(R1,#-128)", [(1, 0xFFFFFF80)], 0xFF),
    ("P0 = cmp.ge(R1,#-128)", [(1, 0xFFFFFF7F)], 0x00),
    ("P0 = cmp.geu(R1,#0)", [], 0xFF),
    ("P0 = cmp.geu(R1,#1)", [], 0x00),
    ("P0 = cmp.lt(R1,R2)", [(1, 0x80000000)], 0xFF),
    ("P0 = cmp.ltu(R1,R2)", [(1, 0x80000000)], 0x00)] = true := by decide +kernel

/-- V40-16 to V40-19, V40-34 to V40-36, V40-42, V40-43, V40-48 to V40-55: floating point. -/
theorem test_floating_point_vectors : resultP0 [
    ("P0 = sfcmp.eq(R1,R2)", [(1, 0x3F800000), (2, 0x3F800000)], 0xFF),
    ("P0 = sfcmp.eq(R1,R2)", [(1, 0x7FC00000), (2, 0x7FC00000)], 0x00),
    ("P0 = sfcmp.eq(R1,R2)", [(2, 0x80000000)], 0xFF),
    ("P0 = dfcmp.eq(R1:0,R3:2)", [(1, 0x3FF00000), (3, 0x3FF00000)], 0xFF),
    ("P0 = sfcmp.gt(R1,R2)", [(1, 0x3F800000), (2, 0xBF800000)], 0xFF),
    ("P0 = sfcmp.gt(R1,R2)", [(1, 0x7FC00000)], 0x00),
    ("P0 = dfcmp.gt(R1:0,R3:2)", [(1, 0x40000000), (3, 0x3FF00000)], 0xFF),
    ("P0 = sfcmp.ge(R1,R2)", [(2, 0x80000000)], 0xFF),
    ("P0 = dfcmp.ge(R1:0,R3:2)", [(1, 0x7FF00000), (3, 0x7FF00000)], 0xFF),
    ("P0 = sfcmp.uo(R1,R2)", [(1, 0x7FC00000)], 0xFF),
    ("P0 = sfcmp.uo(R1,R2)", [(1, 0x7F800000)], 0x00),
    ("P0 = dfcmp.uo(R1:0,R3:2)", [(1, 0x7FF80000)], 0xFF),
    ("P0 = sfclass(R1,#8)", [(1, 0x7F800000)], 0xFF),
    ("P0 = sfclass(R1,#0x17)", [(1, 0x7F800000)], 0x00),
    ("P0 = dfclass(R1:0,#4)", [(0, 1)], 0xFF)] = true := by decide +kernel

/-- V40-56 to V40-71, V40-76, V40-77: bit tests and ranges. -/
theorem test_bit_and_range_vectors : resultP0 [
    ("P0 = tstbit(R1,R2)", [(1, 0x10), (2, 4)], 0xFF),
    ("P0 = tstbit(R1,R2)", [(1, 0x10), (2, 3)], 0x00),
    ("P0 = tstbit(R1,R2)", [(1, 0x10), (2, 36)], 0x00),
    ("P0 = !tstbit(R1,R2)", [(1, 0x10), (2, 4)], 0x00),
    ("P0 = tstbit(R1,#31)", [(1, 0x80000000)], 0xFF),
    ("P0 = !tstbit(R1,#0)", [(1, 1)], 0x00),
    ("P0 = bitsclr(R1,R2)", [(1, 0xF0), (2, 0x0F)], 0xFF),
    ("P0 = bitsclr(R1,R2)", [(1, 0xF0), (2, 0x10)], 0x00),
    ("P0 = !bitsclr(R1,R2)", [(1, 0xF0), (2, 0x10)], 0xFF),
    ("P0 = bitsclr(R1,#63)", [(1, 0xFFFFFFC0)], 0xFF),
    ("P0 = !bitsclr(R1,#1)", [(1, 1)], 0xFF),
    ("P0 = bitsset(R1,R2)", [(1, 0xFF), (2, 0x0F)], 0xFF),
    ("P0 = bitsset(R1,R2)", [(1, 0x0E), (2, 0x0F)], 0x00),
    ("P0 = !bitsset(R1,R2)", [(1, 0x0E), (2, 0x0F)], 0xFF),
    ("P0 = boundscheck(R1,R3:2)", [(1, 5), (3, 10)], 0xFF),
    ("P0 = boundscheck(R1,R3:2)", [(1, 10), (3, 10)], 0x00)] = true := by decide +kernel

/-- V41-11 to V41-27, V40-79, V40-80, V44-3, E2: results in a general register. -/
theorem test_alu_vectors : resultR0 [
    ("R0 = add(R2,R3)", [(2, 0xFFFFFFFF), (3, 1)], 0),
    ("if (P0) R0 = add(R1,#-1)", [(1, 10)], 9),
    ("R0 = sub(R2,R3)", [(2, 0), (3, 1)], 0xFFFFFFFF),
    ("R0 = and(R1,R2)", [(1, 0xFF0F), (2, 0xFF0)], 0xF00),
    ("R0 = or(R1,R2)", [(1, 0xFF00), (2, 0xFF)], 0xFFFF),
    ("R0 = xor(R1,R2)", [(1, 0xFFFF), (2, 0xF0F)], 0xF0F0),
    ("R0 = aslh(R1)", [(1, 0x12345678)], 0x56780000),
    ("R0 = asrh(R1)", [(1, 0x87654321)], 0xFFFF8765),
    ("R0 = sxtb(R1)", [(1, 0x80)], 0xFFFFFF80),
    ("R0 = sxth(R1)", [(1, 0x18000)], 0xFFFF8000),
    ("R0 = zxtb(R1)", [(1, 0xFFFFFF80)], 0x80),
    ("R0 = zxth(R1)", [(1, 0xFFFF8000)], 0x8000),
    ("R0 = #-1", [], 0xFFFFFFFF),
    ("if (!P0) R0 = R5", [(0, 1), (5, 9)], 1),
    ("R1:0 = combine(R2,R3)", [(2, 0xAAAAAAAA), (3, 0xBBBBBBBB)], 0xBBBBBBBB),
    ("R0 = cmp.eq(R2,R3)", [(2, 4), (3, 4)], 1),
    ("R0 = cmp.eq(R2,R3)", [(2, 4), (3, 5)], 0),
    ("R0 = mux(P0,R2,R3)", [(2, 1), (3, 2)], 1),
    ("R0 = mux(P1,R2,R3)", [(2, 1), (3, 2)], 2),
    ("R0 = P0", [(0, 1)], 0xFF)] = true := by decide +kernel

/-- V44-1 to V44-20: the predicate operations on P1 = 0xF0, P2 = 0xCC, P3 = 0xAA. -/
theorem test_predicate_vectors : [
    ("P0 = P1", 0xF0#8), ("P0 = R2", 0x01#8), ("P0 = and(P1,P2)", 0xC0#8), ("P0 = and(P1,!P2)", 0x30#8),
    ("P0 = or(P1,P2)", 0xFC#8), ("P0 = or(P1,!P2)", 0xF3#8), ("P0 = and(P1,and(P2,P3))", 0x80#8),
    ("P0 = and(P1,and(P2,!P3))", 0x40#8), ("P0 = and(P1,or(P2,P3))", 0xE0#8), ("P0 = and(P1,or(P2,!P3))", 0xD0#8),
    ("P0 = or(P1,and(P2,P3))", 0xF8#8), ("P0 = or(P1,and(P2,!P3))", 0xF4#8), ("P0 = or(P1,or(P2,P3))", 0xFE#8),
    ("P0 = or(P1,or(P2,!P3))", 0xFD#8), ("P0 = not(P1)", 0x0F#8), ("P0 = xor(P1,P2)", 0x3C#8),
    ("P0 = any8(P1)", 0xFF#8), ("P0 = all8(P1)", 0x00#8)].all (fun r =>
      leads [(2, 0x12345601)] [(1, 0xF0), (2, 0xCC), (3, 0xAA)] [r.1] [] [(0, r.2), (1, 0xF0), (2, 0xCC)] 0x104#32)
    = true := by decide +kernel

/-- V44-22, V44-23, V44-25: the predicate quadruple. -/
theorem test_quadruple_vectors :
    leads [(2, 0x00FF01FE)] [] ["P3:0 = R2"] [] [(3, 0x00), (2, 0xFF), (1, 0x01), (0, 0xFE)] 0x104#32 = true ∧
    leads [] [(0, 0xFE), (1, 0xF0), (2, 0xCC), (3, 0xAA)] ["R5 = P3:0"] [(5, 0xAACCF0FE)] [] 0x104#32 = true ∧
    leads [(3, 0xDEADBEEF), (2, 0xFF00FF00)] [] ["C5:4 = R3:2"] [] [(3, 0xFF), (2, 0x00), (1, 0xFF), (0, 0x00)]
      0x104#32 = true := by decide +kernel

/-- V43-1 to V43-7, V43-11, E8, E9: the vector instructions. -/
theorem test_vector_vectors :
    resultP0 [
      ("P0 = vcmpb.eq(R1:0,R3:2)", [(1, 0x04000300), (0, 0x00020001)], 0x5A),
      ("P0 = vcmph.eq(R1:0,R3:2)", [(1, 0x00010002), (0, 0x00030004), (3, 0x0001FFFF), (2, 0x0003FFFF)], 0xCC),
      ("P0 = vcmpw.eq(R1:0,R3:2)", [(1, 5), (0, 7), (3, 5)], 0xF0),
      ("P0 = vcmpb.gt(R1:0,R3:2)", [(0, 0x000080)], 0x00),
      ("P0 = vcmpb.gtu(R1:0,R3:2)", [(0, 0x000080)], 0x01),
      ("P0 = vcmph.gt(R1:0,R3:2)", [(3, 0x8000FFFF)], 0xF0),
      ("P0 = vcmph.gtu(R1:0,R3:2)", [(1, 0x80000000)], 0xC0),
      ("P0 = vcmpw.gt(R1:0,R3:2)", [(2, 0xFFFFFFFF)], 0x0F),
      ("P0 = vcmpw.gtu(R1:0,R3:2)", [(1, 0xFFFFFFFF)], 0xF0)] = true ∧
    leads [(7, 0x27262524), (6, 0x23222120), (5, 0x17161514), (4, 0x13121110)] [(0, 0x5A)]
      ["R3:2 = vmux(P0,R7:6,R5:4)"] [(3, 0x17261524), (2, 0x23122110)] [] 0x104#32 = true := by decide +kernel

/-- E1, E5, V41-4, V41-6: loads. -/
theorem test_load_vectors :
    leads [(4, 0x1000)] [] ["R3 = memw(R4)"] [(3, 0x12345678)] [] 0x104#32 = true ∧
    leads [(8, 0x1000)] [] ["R1:0 = memd(R8)"] [(0, 0x12345678), (1, 0xF1020304)] [] 0x104#32 = true ∧
    leads [(8, 0x1007)] [] ["R0 = memb(R8)"] [(0, 0xFFFFFFF1)] [] 0x104#32 = true ∧
    leads [(8, 0x1007)] [] ["R0 = memub(R8)"] [(0, 0x000000F1)] [] 0x104#32 = true ∧
    leads [(8, 0x1006)] [] ["R0 = memh(R8)"] [(0, 0xFFFFF102)] [] 0x104#32 = true ∧
    leads [(8, 0x1006)] [] ["R0 = memuh(R8)"] [(0, 0x0000F102)] [] 0x104#32 = true ∧
    leads [(2, 4), (4, 0x1000), (5, 0xBBBBBBBB)] [] ["P0 = cmp.eq(R2,#4)", "if (P0.new) R3 = memw(R4)",
      "if (!P0.new) R5 = #5"] [(3, 0x12345678), (5, 0xBBBBBBBB)] [(0, 0xFF)] 0x10C#32 = true ∧
    leads [(2, 7), (4, 0xDEAD0001), (3, 9)] [] ["P0 = cmp.eq(R2,#4)", "if (P0.new) R3 = memw(R4)",
      "if (!P0.new) R5 = #5"] [(3, 9), (5, 5)] [(0, 0x00)] 0x10C#32 = true := by decide +kernel

/-- What memory holds after the step. -/
def stored (regs : List (GReg × Word)) (lines : List String) (mem' : Memory) : Bool :=
  match step (put regs [] lines) with
  | .next t => t.mem == Memory.putBytes mem' 0x1000 [0x78#8, 0x56#8, 0x34#8, 0x12#8, 0x04#8, 0x03#8, 0x02#8, 0xF1#8]
  | .fault _ => false
  | .refused _ => false

/-- V41-8, V41-10, V40-74: stores. -/
theorem test_store_vectors :
    stored [(4, 0x3000), (5, 0x12345678)] ["memw(R4) = R5"]
      [(0x3000, 0x78), (0x3001, 0x56), (0x3002, 0x34), (0x3003, 0x12)] = true ∧
    stored [(9, 0x3000), (3, 0x17261524), (2, 0x23122110)] ["memd(R9) = R3:2"]
      [(0x3000, 0x10), (0x3001, 0x21), (0x3002, 0x12), (0x3003, 0x23), (0x3004, 0x24), (0x3005, 0x15),
        (0x3006, 0x26), (0x3007, 0x17)] = true ∧
    stored [(4, 0x3001), (5, 0x12345678)] ["memb(R4) = R5"] [(0x3001, 0x78)] = true ∧
    stored [(4, 0x3002), (5, 0x12345678)] ["memh(R4) = R5"] [(0x3002, 0x78), (0x3003, 0x56)] = true ∧
    stored [(4, 0x3000), (5, 7)] ["memw_locked(R4,P0) = R5"] [] = true := by decide +kernel

/-- E1, V41-1, V41-2, V42-19, V42-20, V42-28: control transfers. -/
theorem test_control_vectors :
    leads [] [] ["jump L"] [] [] 0x200#32 = true ∧
    leads [] [(0, 0xFE)] ["if (P0) jump L"] [] [] 0x104#32 = true ∧
    leads [] [(0, 0x00)] ["if (!P0) jump L"] [] [] 0x200#32 = true ∧
    leads [(0, 50)] [] ["P0 = cmp.gt(R0,#-1)", "P0 = !cmp.gt(R0,#99)", "if (P0.new) jump:T L"] [] [(0, 0xFF)]
      0x200#32 = true ∧
    leads [(0, 100)] [] ["P0 = cmp.gt(R0,#-1)", "P0 = !cmp.gt(R0,#99)", "if (P0.new) jump:T L"] [] [(0, 0x00)]
      0x10C#32 = true ∧
    leads [(1, 3)] [] ["R2 = R1", "jump L"] [(2, 3)] [] 0x200#32 = true ∧
    leads [] [] ["call L", "R1 = #4"] [(31, 0x108), (1, 4)] [] 0x200#32 = true ∧
    leads [(7, 0x200)] [] ["callr R7"] [(31, 0x104)] [] 0x200#32 = true ∧
    leads [(31, 0x200)] [] ["jumpr R31"] [] [] 0x200#32 = true ∧
    leads [(30, 0x1000)] [] ["dealloc_return"] [(30, 0x12345678), (31, 0xF1020304), (29, 0x1008)] [] 0xF1020304#32
      = true := by decide +kernel

/-- V42-1 to V42-9, V42-16, V42-21, V41-9: packets. -/
theorem test_packet_vectors :
    leads [(1, 1), (2, 2)] [] ["R1 = R2", "R2 = R1"] [(1, 2), (2, 1)] [] 0x108#32 = true ∧
    leads [(1, 1), (2, 2)] [] ["R2 = R1", "R1 = R2"] [(1, 2), (2, 1)] [] 0x108#32 = true ∧
    leads [(0, 50)] [] ["P0 = cmp.gt(R0,#-1)", "P0 = !cmp.gt(R0,#99)", "P0 = cmp.eq(R1,#0)"] [] [(0, 0xFF)] 0x10C#32
      = true ∧
    leads [(0, 1)] [(0, 0x00)] ["P0 = cmp.eq(R0,#1)"] [] [(0, 0xFF)] 0x104#32 = true ∧
    leads [] [(1, 0x0F)] ["P0 = cmp.eq(R1,#0)", "P0 = P1"] [] [(0, 0x0F)] 0x108#32 = true ∧
    leads [(1, 0x04000300), (0, 0x00020001)] [] ["P0 = vcmpb.eq(R1:0,R3:2)", "P0 = cmp.eq(R4,#0)"] [] [(0, 0x5A)]
      0x108#32 = true ∧
    leads [(2, 4)] [] ["P0 = cmp.eq(R2,#4)", "if (!P0.new) R5 = #5"] [(5, 0)] [(0, 0xFF)] 0x108#32 = true ∧
    leads [] [(0, 0xFF)] ["if (P0) R1 = #1", "if (!P0) R1 = #2"] [(1, 1)] [] 0x108#32 = true := by decide +kernel

/-- Both outcomes are the same fault, or the same refusal. -/
def same : Result → Result → Bool
  | .fault f, .fault g => decide (f = g)
  | .refused r, .refused q => decide (r = q)
  | _, _ => false

/-- How the step from `put regs preds lines` stops. -/
def stops (regs : List (GReg × Word)) (preds : List (PReg × Byte)) (lines : List String) (o : Result) : Bool :=
  same (step (put regs preds lines)) o

/-- E1, V20-3, V20-5, V60-1, V60-2, E13, V41-3, V41-5: faults, exceptions and refusals while a packet executes. -/
theorem test_stop_vectors :
    stops [(2, 0x1002)] [(2, 0xFF)] ["if (P2) R0 = memw(R2)"] (.fault (.misalignedAccess 0x1002 4)) = true ∧
    leads [(2, 0x1002), (0, 3)] [] ["if (P2) R0 = memw(R2)"] [(0, 3)] [] 0x104#32 = true ∧
    stops [(4, 0xFFFFFFFC)] [] ["R1:0 = memd(R4)"] (.fault (.misalignedAccess 0xFFFFFFFC 8)) = true ∧
    stops [(2, 0xDEAD0000)] [(2, 0xFF)] ["if (P2) R0 = memw(R2)"]
      (.fault (.raised (.memoryPermissionViolation 0xDEAD0000 .read))) = true ∧
    leads [(2, 0xDEAD0000), (0, 3)] [] ["if (P2) R0 = memw(R2)"] [(0, 3)] [] 0x104#32 = true ∧
    stops [(3, 9)] [(2, 0xFF), (3, 0xFF)] ["if (P2) R3 = #4", "if (P3) R3 = #7"]
      (.fault (.raised (.multipleWriteError 3 0x100))) = true ∧
    stops [] [(2, 0xFF), (3, 0xFF)] ["if (P2) R3:2 = combine(R0,R0)", "if (P3) R3 = #7"]
      (.fault (.raised (.multipleWriteError 3 0x100))) = true ∧
    stops [(4, 0x1000)] [] ["memw(R4) = R5", "memw(R4) = R6"] (.refused .overlappingPacketAccesses) = true ∧
    stops [] [] ["jump nowhere"] (.refused .unknownLabel) = true ∧
    stops [] [] ["P0 = cmp.eq(R2,#512)"] (.refused .immediateOutOfRange) = true ∧
    stops [] [] ["if (P0) R1 = add(R1,#128)"] (.refused .immediateOutOfRange) = true := by decide +kernel

/-- V42-10 to V42-14, V42-17, V42-18, V42-24 to V42-27, V44-26: ill-formed packets. -/
theorem test_refusal_vectors : [
    (["P0 = sfcmp.eq(R1,R2)", "P0 = cmp.eq(R3,#0)"], PacketReason.sharedPredicate),
    (["P0 = R1", "P0 = cmp.eq(R3,#0)"], .sharedPredicate),
    (["P3:0 = R1", "P2 = cmp.eq(R3,#0)"], .quadrupleGrouped),
    (["P0 = and(P1,P2)", "P0 = cmp.eq(R3,#0)"], .sharedPredicate),
    (["if (P0.new) R5 = #5"], .newWithoutProducer),
    (["P3:0 = R1", "if (P0.new) R5 = #5"], .newWithoutProducer),
    (["R3 = #4", "R3 = #7"], .doubleWrite),
    (["R3 = #4", "if (P3) R3 = #7"], .doubleWrite),
    (["P0 = R1", "P0 = R2"], .sharedPredicate),
    (["jump L", "jump L"], .twoTransfers),
    (["R1 = memw(R4)", "R2 = memw(R4)", "R3 = memw(R4)"], .memoryInstructions),
    (["R1:0 = C5:4"], .noRule),
    (["R1 = #1", "R2 = #1", "R3 = #1", "R4 = #1", "R5 = #1"], .size),
    ([], .size)].all (fun r => stops [] [] r.1 (.refused (.illFormedPacket r.2))) = true := by decide +kernel

/-- V40-78, V41-31, V43-13: the admission switches, off in the state after reset's launch. -/
theorem test_switch_vectors : ["P0 = tlbmatch(R1:0,R2)", "callr R1", "P0 = vcmpb.gtu(R1:0,R3:2)"].all (fun line =>
    same (step { put [] [] [line] with launch := { (put [] [] [line]).launch with tlbmatchOn := false, gkOn := false } })
      (.refused (.illFormedPacket .switchedOff))) = true := by decide +kernel

/-- R704 and V42-29: the end of the run, and an address without a packet. -/
theorem test_end_vectors :
    same (step { put [] [] ["R1 = #1"] with launch := { (put [] [] ["R1 = #1"]).launch with haltPc := some 0x100#32 } })
      (.refused .runEnded) = true ∧
    same (step { put [] [] ["R1 = #1"] with pc := 0x500#32 }) (.refused .noPacketAtPc) = true := by decide +kernel

/-- The text of an instruction, as a number, runs as the first instruction after reset (entry 4). -/
theorem test_withFetchWord :
    decodeTableWord 56 0x3952203D203952 = some (.tfr 9 9) ∧
    (∃ t, step (State.reset.withFetchWord 56 0x3952203D203952) = .next t ∧ t.pc = 4#32) := by
  refine ⟨by decide +kernel, _, rfl, by decide +kernel⟩

/-! ### The hypotheses of the statements can be met

For each statement with hypotheses: concrete states and operands that meet them, for each clause at boundary values. -/

/-- A state with the given registers in which an instruction of a one-instruction packet executes: P0 and P1 have the
old values 0xFF and 0x00 and the new values 0x01 and 0xFE. -/
def inPacket (regs : List (GReg × Word)) : State :=
  { put regs [(0, 0xFF), (1, 0x00)] [] with
    pkt := { size := 1, newP := #v[some 0x01#8, some 0xFE#8, none, none], effects := Effects.none } }

/-- Both guards and both `.new` guards of `GuardedTo` occur, with either value. -/
theorem test_meets_guards : let s := inPacket []
    (s.pred 0).getLsbD 0 = true ∧ (s.pred 1).getLsbD 0 = false ∧ s.newPred 0 = some 0x01#8 ∧
      (0x01#8).getLsbD 0 = true ∧ s.newPred 1 = some 0xFE#8 ∧ (0xFE#8).getLsbD 0 = false := by decide +kernel

theorem test_meets_WordComparesGenerateTruthValues : let s := inPacket [(1, 5), (2, 5), (3, 0xFFFFFFFF)]
    s.reg 1 = s.reg 2 ∧ s.reg 1 ≠ s.reg 3 ∧ (s.reg 3).toInt < (s.reg 1).toInt ∧ ¬(s.reg 1).toInt < (s.reg 2).toInt ∧
      (s.reg 1).toInt ≤ (s.reg 2).toInt ∧ ¬(s.reg 1).toInt ≤ (s.reg 3).toInt ∧ (s.reg 1).toNat < (s.reg 3).toNat ∧
      ¬(s.reg 3).toNat < (s.reg 1).toNat ∧ (s.reg 1).toNat ≤ (s.reg 2).toNat ∧ ¬(s.reg 3).toNat ≤ (s.reg 1).toNat := by
  decide +kernel

/-- Each range at both ends, the compare true at one end and false at the other. -/
theorem test_meets_WordImmediateComparesGenerateTruthValues :
    let s := inPacket [(1, 0xFFFFFE00), (2, 511), (3, 0xFFFFFF80), (4, 0)]
    ((-512 ≤ (-512 : Int) ∧ (-512 : Int) ≤ 511) ∧ (s.reg 1).toInt = -512 ∧ ¬(-512 : Int) < (s.reg 1).toInt) ∧
    ((-512 ≤ (511 : Int) ∧ (511 : Int) ≤ 511) ∧ (s.reg 1).toInt ≠ 511 ∧ (s.reg 2).toInt ≤ 511) ∧
    ((0 ≤ (511 : Int) ∧ (511 : Int) ≤ 511) ∧ (511 : Int) < ((s.reg 1).toNat : Int) ∧ ((s.reg 2).toNat : Int) ≤ 511) ∧
    ((-128 ≤ (-128 : Int) ∧ (-128 : Int) ≤ 127) ∧ (-128 : Int) ≤ (s.reg 3).toInt ∧ ¬(-128 : Int) ≤ (s.reg 1).toInt) ∧
    ((0 ≤ (0 : Int) ∧ (0 : Int) ≤ 255) ∧ (0 : Int) ≤ ((s.reg 4).toNat : Int)) ∧
    ((0 ≤ (255 : Int) ∧ (255 : Int) ≤ 255) ∧ ¬(255 : Int) ≤ ((s.reg 4).toNat : Int)) := by decide +kernel

theorem test_meets_NarrowComparesGenerateTruthValues :
    let s := inPacket [(1, 0x12345678), (2, 0xFFFFFF78), (3, 0xFFFF8080), (4, 0x1FF), (5, 0xFFFF)]
    (s.reg 1).toNat % 2 ^ 8 = (s.reg 2).toNat % 2 ^ 8 ∧ (s.reg 1).toNat % 2 ^ 16 ≠ (s.reg 2).toNat % 2 ^ 16 ∧
    ((s.reg 3).setWidth 8).toInt < ((s.reg 1).setWidth 8).toInt ∧
    ((s.reg 3).setWidth 16).toInt < ((s.reg 1).setWidth 16).toInt ∧
    (s.reg 1).toNat % 2 ^ 8 < (s.reg 3).toNat % 2 ^ 8 ∧ (s.reg 1).toNat % 2 ^ 16 < (s.reg 3).toNat % 2 ^ 16 ∧
    ((0 ≤ (255 : Int) ∧ (255 : Int) ≤ 255) ∧ (((s.reg 4).toNat % 2 ^ 8 : Nat) : Int) = 255) ∧
    ((-128 ≤ (-128 : Int) ∧ (-128 : Int) ≤ 127) ∧ ((s.reg 5).setWidth 16).toInt ≠ -128 ∧
      (-128 : Int) < ((s.reg 1).setWidth 8).toInt ∧ ¬(-128 : Int) < ((s.reg 3).setWidth 16).toInt) ∧
    ((0 ≤ (127 : Int) ∧ (127 : Int) ≤ 127) ∧ (127 : Int) < (((s.reg 3).toNat % 2 ^ 8 : Nat) : Int) ∧
      ¬(127 : Int) < (((s.reg 1).toNat % 2 ^ 8 : Nat) : Int)) := by decide +kernel

theorem test_meets_DoublewordComparesGenerateTruthValues : let s := inPacket [(1, 1), (2, 0), (3, 0xFFFFFFFF), (4, 0), (5, 1)]
    (s.reg (oddReg 0) = s.reg (oddReg 2) ∧ s.reg (evenReg 0) = s.reg (evenReg 2)) ∧
    ¬(s.reg (oddReg 0) = s.reg (oddReg 1)) ∧
    (s.reg (oddReg 1)).toInt * 2 ^ 32 + ((s.reg (evenReg 1)).toNat : Int) <
      (s.reg (oddReg 0)).toInt * 2 ^ 32 + ((s.reg (evenReg 0)).toNat : Int) ∧
    (s.reg (oddReg 0)).toNat * 2 ^ 32 + (s.reg (evenReg 0)).toNat <
      (s.reg (oddReg 1)).toNat * 2 ^ 32 + (s.reg (evenReg 1)).toNat := by decide +kernel

theorem test_meets_FloatComparesGenerateTruthValues :
    let s := inPacket [(1, 0x3F800000), (2, 0x80000000), (3, 0x7FC00000), (4, 0), (5, 0x7F800000)]
    (¬(((s.reg 1).toNat / 2 ^ 23 % 2 ^ 8 = 0xFF) ∧ (s.reg 1).toNat % 2 ^ 23 ≠ 0)) ∧
    (((s.reg 3).toNat / 2 ^ 23 % 2 ^ 8 = 0xFF) ∧ (s.reg 3).toNat % 2 ^ 23 ≠ 0) ∧
    (¬(((s.reg 5).toNat / 2 ^ 23 % 2 ^ 8 = 0xFF) ∧ (s.reg 5).toNat % 2 ^ 23 ≠ 0)) ∧
    singleKey (s.reg 2) = singleKey (s.reg 4) ∧ singleKey (s.reg 2) < singleKey (s.reg 1) ∧
    doubleKey 0x8000000000000000#64 = doubleKey 0#64 ∧ doubleKey 0#64 < doubleKey 0x3FF0000000000000#64 ∧
    ((0x7FF8000000000000#64).toNat / 2 ^ 52 % 2 ^ 11 = 0x7FF ∧ (0x7FF8000000000000#64).toNat % 2 ^ 52 ≠ 0) := by
  decide +kernel

/-- Both ends of the range, and with the default `ClassBit` a class that #8 names and one that it does not. -/
theorem test_meets_ClassifyTestsTheClassBit : let s := inPacket [(1, 0x7F800000), (2, 1)]
    (0 ≤ (0 : Int) ∧ (0 : Int) ≤ 31) ∧ (0 ≤ (31 : Int) ∧ (31 : Int) ≤ 31) ∧
    (8 : Int).toNat.testBit (s.launch.classBits.bit (single.classOf (s.reg 1))).val = true ∧
    ¬(8 : Int).toNat.testBit (s.launch.classBits.bit (single.classOf (s.reg 2))).val = true ∧
    (8 : Int).toNat.testBit (s.launch.classBits.bit (double.classOf 0x7FF0000000000000#64)).val = true ∧
    ¬(8 : Int).toNat.testBit (s.launch.classBits.bit (double.classOf (s.pair 1))).val = true := by decide +kernel

theorem test_meets_BitTestsGenerateTruthValues : let s := inPacket [(1, 0xF0), (2, 0x0F), (3, 0x10), (4, 0x80000001)]
    ((0 ≤ (0 : Int) ∧ (0 : Int) ≤ 31) ∧ (s.reg 4).getLsbD (0 : Int).toNat = true) ∧
    ((0 ≤ (31 : Int) ∧ (31 : Int) ≤ 31) ∧ (s.reg 1).getLsbD (31 : Int).toNat = false) ∧
    (∀ k < 32, (s.reg 2).getLsbD k = true → (s.reg 1).getLsbD k = false) ∧
    (∃ k < 32, (s.reg 3).getLsbD k = true ∧ (s.reg 1).getLsbD k = true) ∧
    ((0 ≤ (0 : Int) ∧ (0 : Int) ≤ 63) ∧ ∀ k < 32, (0 : Int).toNat.testBit k = true → (s.reg 1).getLsbD k = false) ∧
    ((0 ≤ (63 : Int) ∧ (63 : Int) ≤ 63) ∧ ∃ k < 32, (63 : Int).toNat.testBit k = true ∧ (s.reg 1).getLsbD k = true) ∧
    (∀ k < 32, (s.reg 3).getLsbD k = true → (s.reg 1).getLsbD k = true) ∧
    (∃ k < 32, (s.reg 2).getLsbD k = true ∧ (s.reg 1).getLsbD k = false) := by decide +kernel

/-- At most 31, and above it with `Rt[6:0]` at 31, at 32 and at -64, and with the unknown function. -/
theorem test_meets_RegisterBitTestCompletes :
    let s := inPacket [(1, 0x80000000), (2, 31), (3, 0), (4, 32), (5, 0x9F), (6, 0x40)]
    (31 < (s.reg 5).toNat ∧ s.launch.tstbitWide = .default ∧ 0 ≤ ((s.reg 5).extractLsb' 0 7).toInt ∧
      ((s.reg 5).extractLsb' 0 7).toInt ≤ 31 ∧
      (s.reg 1).getLsbD ((s.reg 5).extractLsb' 0 7).toInt.toNat = true) ∧
    ¬((s.reg 4).extractLsb' 0 7).toInt ≤ 31 ∧ (31 < (s.reg 6).toNat ∧ ¬0 ≤ ((s.reg 6).extractLsb' 0 7).toInt) ∧
    ((s.reg 2).toNat ≤ 31 ∧ (s.reg 1).getLsbD (s.reg 2).toNat = true) ∧
    ((s.reg 3).toNat ≤ 31 ∧ (s.reg 1).getLsbD (s.reg 3).toNat = false) ∧ 31 < (s.reg 4).toNat ∧
    ({ s with launch := { s.launch with tstbitWide := .other } } : State).launch.tstbitWide = .other := by decide +kernel

theorem test_meets_RangeAndTlbMatchComplete : let s := inPacket [(1, 5), (2, 5), (3, 6), (4, 0), (5, 5)]
    (s.launch.bounds = .default ∧ ((s.reg (evenReg 1)).toNat ≤ (s.reg 1).toNat ∧ (s.reg 1).toNat < (s.reg (oddReg 1)).toNat) ∧
      ¬((s.reg (evenReg 2)).toNat ≤ (s.reg 1).toNat ∧ (s.reg 1).toNat < (s.reg (oddReg 2)).toNat)) ∧
    ({ s with launch := { s.launch with bounds := .other } } : State).launch.bounds = .other := by decide +kernel

/-- The access is in order at the last address of each size, with a matching reservation and without. -/
theorem test_meets_StoreConditionalOutcomes : let s := inPacket [(1, 0xFFFFFFFC), (2, 0xFFFFFFF8)]
    (aligned (s.reg 1) 4 = true ∧ s.permits (s.reg 1) 4 .write = true ∧
      s.resv ≠ some { addr := s.reg 1, size := .word } ∧
      ({ s with resv := some { addr := s.reg 1, size := .word } } : State).resv = some { addr := s.reg 1, size := .word }) ∧
    (aligned (s.reg 2) 8 = true ∧ s.permits (s.reg 2) 8 .write = true ∧
      s.resv ≠ some { addr := s.reg 2, size := .dword } ∧
      ({ s with resv := some { addr := s.reg 2, size := .dword } } : State).resv =
        some { addr := s.reg 2, size := .dword }) := by decide +kernel

theorem test_meets_CompareToRegisterAndMuxResults : let s := inPacket [(1, 5), (2, 5), (3, 6)]
    s.reg 1 = s.reg 2 ∧ s.reg 1 ≠ s.reg 3 ∧ (s.pred 0).getLsbD 0 = true ∧ (s.pred 1).getLsbD 0 = false := by decide +kernel

/-- The reductions meet both of their cases. -/
theorem test_meets_InversionAndReductionResults : let s := inPacket []
    (∃ k < 8, (s.pred 0).getLsbD k = true) ∧ ¬(∃ k < 8, (s.pred 1).getLsbD k = true) ∧
    (∀ k < 8, (s.pred 0).getLsbD k = true) ∧ ¬(∀ k < 8, (s.pred 1).getLsbD k = true) := by decide +kernel

theorem test_meets_JumpsComplete : (inPacket []).launch.labelAddr (ascii "L") = some 0x200#32 := by decide +kernel

theorem test_meets_CallsComplete : (inPacket []).launch.labelAddr (ascii "L") = some 0x200#32 := by decide +kernel

theorem test_meets_DeallocReturnCompletes : let s := inPacket [(30, 0x1000)]
    aligned (s.reg 30) 8 = true ∧ s.permits (s.reg 30) 8 .read = true := by decide +kernel

/-- At the last address of each size. -/
theorem test_meets_WordAndDoublewordLoadsComplete : let s := inPacket [(1, 0xFFFFFFFC), (2, 0xFFFFFFF8)]
    (aligned (s.reg 1) 4 = true ∧ s.permits (s.reg 1) 4 .read = true) ∧
    (aligned (s.reg 2) 8 = true ∧ s.permits (s.reg 2) 8 .read = true) := by decide +kernel

theorem test_meets_ByteAndHalfwordLoadsComplete : let s := inPacket [(1, 0xFFFFFFFF), (2, 0xFFFFFFFE)]
    (aligned (s.reg 1) 1 = true ∧ s.permits (s.reg 1) 1 .read = true) ∧
    (aligned (s.reg 2) 2 = true ∧ s.permits (s.reg 2) 2 .read = true) := by decide +kernel

theorem test_meets_StoresComplete : let s := inPacket [(1, 0xFFFFFFFF), (2, 0xFFFFFFFE), (3, 0xFFFFFFFC), (4, 0xFFFFFFF8)]
    (aligned (s.reg 1) 1 = true ∧ s.permits (s.reg 1) 1 .write = true) ∧
    (aligned (s.reg 2) 2 = true ∧ s.permits (s.reg 2) 2 .write = true) ∧
    (aligned (s.reg 3) 4 = true ∧ s.permits (s.reg 3) 4 .write = true) ∧
    (aligned (s.reg 4) 8 = true ∧ s.permits (s.reg 4) 8 .write = true) := by decide +kernel

/-- The results of the vector compares can be given to `vmux`. -/
theorem test_meets_HalfwordComparesSelectHalfwords :
    let u := { inPacket [] with preds := #v[0xCC#8, 0xF0#8, 0, 0] }
    (∃ v, exec (.vcmphEq 0 0 1) (inPacket [(1, 0x00010002), (0, 0x00030004), (3, 0x0001FFFF), (2, 0x0003FFFF)]) =
      .next ((inPacket [(1, 0x00010002), (0, 0x00030004), (3, 0x0001FFFF), (2, 0x0003FFFF)]).recordPred 0 v) ∧ u.pred 0 = v) ∧
    (∃ v, exec (.vcmpwEq 0 0 1) (inPacket [(1, 5), (0, 7), (3, 5)]) =
      .next ((inPacket [(1, 5), (0, 7), (3, 5)]).recordPred 0 v) ∧ u.pred 1 = v) :=
  ⟨⟨_, rfl, by decide +kernel⟩, ⟨_, rfl, by decide +kernel⟩⟩

/-- The lines at the pc are admitted as these instructions. -/
def atPacket (s : State) (is : List Instr) : Bool :=
  decide (s.launch.haltPc ≠ some s.pc) &&
    match s.launch.packetAt s.pc with
    | some p =>
      match s.launch.admitted p with
      | .ok js => decide (js = is)
      | .error _ => false
    | none => false

theorem atPacket_of {s : State} {is : List Instr} (h : atPacket s is = true) : AtPacket s is := by
  simp only [atPacket, Bool.and_eq_true, decide_eq_true_eq] at h
  obtain ⟨h1, h2⟩ := h
  split at h2
  · split at h2
    · exact ⟨h1, _, ‹_›, by rw [‹s.launch.admitted _ = _›, of_decide_eq_true h2]⟩
    · cases h2
  · cases h2

theorem room_of {s : State} {n : Nat} (h : Nat.ble (s.pc.toNat + Config.insnBytes * n + 1) (2 ^ 32) = true) :
    RoomAfter s n := Nat.le_of_ble_eq_true h

/-- The outcome is a next state. -/
def isNext : Result → Bool
  | .next _ => true
  | .fault _ => false
  | .refused _ => false

theorem next_of {r : Result} (h : isNext r = true) : ∃ t, r = .next t := by
  cases r with
  | next t => exact ⟨t, rfl⟩
  | fault f => cases h
  | refused q => cases h

/-- A compare and both readers of its new value. -/
def dotNew : State := put [(2, 4), (4, 0x1000)] [] ["P0 = cmp.eq(R2,#4)", "if (P0.new) R3 = memw(R4)", "if (!P0.new) R5 = #5"]

def dotNewInstrs : List Instr := [.cmpEqRi 0 2 4, .memwLdIfTnew 0 3 4, .tfriIfFnew 0 5 5]

/-- A word store to `0x1000`. -/
def storing1 : State := put [(4, 0x1000)] [] ["memw(R4) = R5"]

/-- A store conditional to `0x1000`, or of a doubleword. -/
def locked (line : String) : State := put [(4, 0x1000)] [] [line]

theorem test_meets_StepRunsDecodedInstruction : let s := put [(4, 0x1000)] [] ["R3 = memw(R4)"]
    s.launch.haltPc ≠ some s.pc ∧ (∃ p, s.launch.packetAt s.pc = some p ∧ p.lines = [ascii "R3 = memw(R4)"]) ∧
    decode (ascii "R3 = memw(R4)") = .ok (.memwLd 3 4) ∧ (Instr.memwLd 3 4).wellFormed = true ∧
    s.launch.refusal [.memwLd 3 4] = none ∧
    (∃ t pc, exec (.memwLd 3 4) (s.generated [.memwLd 3 4]) = .next t ∧ duplicate t.pkt.effects.regs = none ∧
      t.pkt.effects.overlapping = false ∧ s.nextPc 1 t.pkt.effects = some pc) ∧
    ∃ f, exec (.memwLd 3 4) ((put [(4, 0x1001)] [] ["R3 = memw(R4)"]).generated [.memwLd 3 4]) = .fault f := by
  refine ⟨by decide +kernel, ⟨_, rfl, rfl⟩, by decide +kernel, by decide +kernel, by decide +kernel, ⟨_, _, rfl, ?_, ?_, rfl⟩,
    ⟨_, rfl⟩⟩ <;> decide +kernel

/-- Well-formed at the ends of the ranges. -/
theorem test_meets_DecodeReadsWhatEncodeWrites :
    (Instr.cmpEqRi 3 31 (-512)).wellFormed = true ∧ (Instr.cmpGtuRi 0 0 511).wellFormed = true ∧
    (Instr.tfri 31 (-32768)).wellFormed = true ∧ (Instr.tfri 31 32767).wellFormed = true ∧
    (Instr.jumpIfFnew 3 (ascii "loop_1")).wellFormed = true := by decide +kernel

theorem test_meets_HintsDoNotMatter : isLabel (ascii "taken_path") = true := by decide +kernel

theorem test_meets_EveryStepKeepsTheInvariant : Inv dotNew ∧ ∃ t, step dotNew = .next t :=
  ⟨⟨by decide +kernel, by decide +kernel⟩, next_of (by decide +kernel)⟩

theorem test_meets_PcStaysAligned :
    let s := { dotNew with launch := { dotNew.launch with gkOn := false } }
    PcAligned s ∧ ∃ t, step s = .next t :=
  ⟨⟨by decide +kernel, by decide +kernel, by decide +kernel⟩, next_of (by decide +kernel)⟩

theorem test_meets_LineOrderHasNoMeaning : [Instr.tfr 1 2, .tfr 2 1].Perm [.tfr 2 1, .tfr 1 2] ∧
    (put [] [] []).mem.wf = true ∧ (put [] [] []).launch.refusal [.tfr 1 2, .tfr 2 1] = none ∧
    ∃ t, (put [] [] []).runPacket [.tfr 1 2, .tfr 2 1] = .next t :=
  ⟨List.Perm.swap _ _ _, by decide +kernel, by decide +kernel, next_of (by decide +kernel)⟩

theorem test_meets_OtherRegistersKeepTheirValue : AtPacket dotNew dotNewInstrs ∧ (∃ t, step dotNew = .next t) ∧
    ∀ i ∈ dotNewInstrs, (31 : GReg) ∉ i.role.regs :=
  ⟨atPacket_of (by decide +kernel), next_of (by decide +kernel), by decide +kernel⟩

/-- P0 has a writer and P1 has none. -/
theorem test_meets_PredicateCommitIsTheAndOfResults : AtPacket dotNew dotNewInstrs ∧ (∃ t, step dotNew = .next t) ∧
    (∀ w ∈ dotNewInstrs.flatMap fun i => (effectsOf (exec i (dotNew.generated dotNewInstrs))).preds, w.1 ≠ 1) ∧
    (∃ w ∈ dotNewInstrs.flatMap fun i => (effectsOf (exec i (dotNew.generated dotNewInstrs))).preds, w.1 = 0) :=
  ⟨atPacket_of (by decide +kernel), next_of (by decide +kernel), by decide +kernel, by decide +kernel⟩

theorem test_meets_DotNewReadsTheCommittedValue : AtPacket dotNew dotNewInstrs ∧ (∃ t, step dotNew = .next t) ∧
    Instr.memwLdIfTnew 0 3 4 ∈ dotNewInstrs ∧ (Instr.memwLdIfTnew 0 3 4).newReg = some 0 :=
  ⟨atPacket_of (by decide +kernel), next_of (by decide +kernel), by decide +kernel, by decide +kernel⟩

/-- The bytes just before and just after a store, and a packet without a memory instruction. -/
theorem test_meets_MemoryChangesOnlyWhereStored : AtPacket storing1 [.memwSt 4 5] ∧ (∃ t, step storing1 = .next t) ∧
    (∀ i ∈ [Instr.memwSt 4 5], ∀ x ∈ (effectsOf (exec i (storing1.generated [.memwSt 4 5]))).stores,
      ¬(x.addr.toNat ≤ 0xFFF ∧ 0xFFF < x.addr.toNat + x.bytes.length) ∧
      ¬(x.addr.toNat ≤ 0x1004 ∧ 0x1004 < x.addr.toNat + x.bytes.length)) ∧
    AtPacket (put [] [] ["R1 = R2"]) [.tfr 1 2] ∧ (∃ t, step (put [] [] ["R1 = R2"]) = .next t) ∧
    (∀ i ∈ [Instr.tfr 1 2], i.role.memory = false) :=
  ⟨atPacket_of (by decide +kernel), next_of (by decide +kernel), by decide +kernel, atPacket_of (by decide +kernel),
    next_of (by decide +kernel), by decide +kernel⟩

theorem test_meets_ReservationRule :
    (AtPacket (locked "memw_locked(R4,P0) = R5") [.memwLockedSt 4 0 5] ∧
      ∃ t, step (locked "memw_locked(R4,P0) = R5") = .next t) ∧
    (AtPacket (locked "memd_locked(R4,P0) = R7:6") [.memdLockedSt 4 0 3] ∧
      ∃ t, step (locked "memd_locked(R4,P0) = R7:6") = .next t) ∧
    AtPacket storing1 [.memwSt 4 5] ∧ (∃ t, step storing1 = .next t) ∧
    (∀ rs pd rt, Instr.memwLockedSt rs pd rt ∉ [Instr.memwSt 4 5]) ∧
    (∀ rs pd rtt, Instr.memdLockedSt rs pd rtt ∉ [Instr.memwSt 4 5]) :=
  ⟨⟨atPacket_of (by decide +kernel), next_of (by decide +kernel)⟩,
    ⟨atPacket_of (by decide +kernel), next_of (by decide +kernel)⟩, atPacket_of (by decide +kernel),
    next_of (by decide +kernel), by simp, by simp⟩

/-- A packet with a taken jump, and one without a transfer. -/
theorem test_meets_NextPcRule :
    (AtPacket (put [] [] ["jump L"]) [.jump (ascii "L")] ∧ (∃ t, step (put [] [] ["jump L"]) = .next t) ∧
      (effectsOf (exec (.jump (ascii "L")) ((put [] [] ["jump L"]).generated [.jump (ascii "L")]))).target =
        some 0x200#32) ∧
    AtPacket dotNew dotNewInstrs ∧ (∃ t, step dotNew = .next t) ∧
    (∀ i ∈ dotNewInstrs, (effectsOf (exec i (dotNew.generated dotNewInstrs))).target = none) :=
  ⟨⟨atPacket_of (by decide +kernel), next_of (by decide +kernel), by decide +kernel⟩, atPacket_of (by decide +kernel),
    next_of (by decide +kernel), by decide +kernel⟩

theorem test_meets_PacketReadsOldRegisters :
    (1 : GReg) ≠ 2 ∧ AtPacket (put [] [] ["R1 = R2", "R2 = R1"]) [.tfr 1 2, .tfr 2 1] ∧
    RoomAfter (put [] [] ["R1 = R2", "R2 = R1"]) 2 :=
  ⟨by decide, atPacket_of (by decide +kernel), room_of (by decide +kernel)⟩

theorem test_meets_StoreThenMemoryHoldsTheBytes : AtPacket storing1 [.memwSt 4 5] ∧
    AccessOk storing1 (storing1.reg 4) 4 .write ∧ RoomAfter storing1 1 :=
  ⟨atPacket_of (by decide +kernel), ⟨by decide +kernel, by decide +kernel⟩, room_of (by decide +kernel)⟩

/-- The last byte of the largest size, and the last address of a doubleword. -/
theorem test_meets_LoadedValueIsLittleEndian :
    (8 ∈ [1, 2, 4, 8] ∧ 7 < 8) ∧ (1 ∈ [1, 2, 4, 8] ∧ 0 < 1) ∧ (0xFFFFFFF8#32).toNat + 8 ≤ 2 ^ 32 := by decide +kernel

theorem test_meets_QuadrupleSavesAndRestores : ∃ v, exec (.tfrRp4 5) (inPacket []) = .next ((inPacket []).recordReg 5 v) ∧
    (inPacket [(6, 0x000000FF)]).reg 6 = v := ⟨_, rfl, by decide +kernel⟩

/-- One state in which a compare holds, and one in which none does. -/
theorem test_meets_OrByNegatedCompares :
    let s := put [(1, 5), (2, 5), (3, 7)] [] ["P0 = !cmp.eq(R1,R2)", "P0 = !cmp.gtu(R3,R2)"]
    let u := put [(1, 5), (2, 6), (3, 6)] [] ["P0 = !cmp.eq(R1,R2)", "P0 = !cmp.gtu(R3,R2)"]
    (AtPacket s [.ncmpEqRr 0 1 2, .ncmpGtuRr 0 3 2] ∧ RoomAfter s 2 ∧
      (s.reg 1 = s.reg 2 ∨ (s.reg 2).toNat < (s.reg 3).toNat)) ∧
    (AtPacket u [.ncmpEqRr 0 1 2, .ncmpGtuRr 0 3 2] ∧ RoomAfter u 2 ∧
      ¬(u.reg 1 = u.reg 2 ∨ (u.reg 2).toNat < (u.reg 3).toNat)) :=
  ⟨⟨atPacket_of (by decide +kernel), room_of (by decide +kernel), by decide +kernel⟩, atPacket_of (by decide +kernel),
    room_of (by decide +kernel), by decide +kernel⟩

theorem test_meets_GuardDecidesExecution :
    (Instr.subRrIfTnew 0 1 2 3).guard = some (.ifTnew 0) ∧ (Instr.subRr 1 2 3).guard = none ∧
    (Instr.subRr 1 2 3).op = (Instr.subRrIfTnew 0 1 2 3).op ∧ (inPacket []).guardValue (.ifTnew 0) = some true ∧
    (inPacket []).guardValue (.ifTnew 1) = some false ∧ (inPacket []).guardValue (.ifTnew 2) = none := by decide +kernel

/-- Two guarded writers of R3 whose guards are both true. -/
def twoWriters : State := put [] [(2, 0xFF), (3, 0xFF)] ["if (P2) R3 = #4", "if (P3) R3 = #7"]

def twoWritersInstrs : List Instr := [] ++ Instr.tfriIfT 2 3 4 :: [] ++ Instr.tfriIfT 3 3 7 :: []

theorem test_meets_TwoExecutedWritersRaise : AtPacket twoWriters twoWritersInstrs ∧
    (∀ k ∈ twoWritersInstrs, ∃ u, exec k (twoWriters.generated twoWritersInstrs) = .next u) ∧
    ((3 : GReg), 4#32) ∈ (effectsOf (exec (.tfriIfT 2 3 4) (twoWriters.generated twoWritersInstrs))).regs ∧
    ((3 : GReg), 7#32) ∈ (effectsOf (exec (.tfriIfT 3 3 7) (twoWriters.generated twoWritersInstrs))).regs :=
  ⟨atPacket_of (by decide +kernel), by
    have h : ∀ k ∈ twoWritersInstrs, isNext (exec k (twoWriters.generated twoWritersInstrs)) = true := by decide +kernel
    exact fun k hk => next_of (h k hk), by decide +kernel, by decide +kernel⟩

/-- The outcome is the multiple-write error of `R3` at `0x100`. -/
theorem test_meets_OnlyGuardedWritersRaise : AtPacket twoWriters twoWritersInstrs ∧
    step twoWriters = .fault (.raised (.multipleWriteError 3 0x100#32)) := by
  refine ⟨atPacket_of (by decide +kernel), ?_⟩
  have h : same (step twoWriters) (.fault (.raised (.multipleWriteError 3 0x100#32))) = true := by decide +kernel
  cases e : step twoWriters with
  | fault f => rw [e] at h; exact congrArg _ (of_decide_eq_true h)
  | next t => rw [e] at h; cases h
  | refused r => rw [e] at h; cases h

/-- Misaligned, past the top, and aligned but denied: a read, and a write. -/
theorem test_meets_BadAccessesStop : let s := inPacket [(1, 0x1002), (2, 0xFFFFFFFC), (3, 0xDEAD0000), (4, 0xDEAD0008)]
    ¬((s.reg 1).toNat % 4 = 0 ∧ (s.reg 1).toNat + 4 ≤ 2 ^ 32) ∧
    ¬((s.reg 2).toNat % 8 = 0 ∧ (s.reg 2).toNat + 8 ≤ 2 ^ 32) ∧
    ((s.reg 3).toNat % 4 = 0 ∧ (s.reg 3).toNat + 4 ≤ 2 ^ 32) ∧ s.permits (s.reg 3) 4 .read = false ∧
    ((s.reg 4).toNat % 4 = 0 ∧ (s.reg 4).toNat + 4 ≤ 2 ^ 32) ∧ s.permits (s.reg 4) 4 .write = false := by decide +kernel

/-- No writer at all, and only a quadruple transfer. -/
theorem test_meets_NewWithoutProducerIsRefused :
    (∃ p, (put [] [] ["if (P0.new) R5 = #5"]).launch.packetAt 0x100#32 = some p ∧
      readLines p.lines = some [.tfriIfTnew 0 5 5] ∧ (Instr.tfriIfTnew 0 5 5).newReg = some 0 ∧
      ∀ j ∈ [Instr.tfriIfTnew 0 5 5], (0 : PReg) ∈ j.role.preds → j.role.quad = true) ∧
    (∃ p, (put [] [] ["P3:0 = R1", "if (P0.new) R5 = #5"]).launch.packetAt 0x100#32 = some p ∧
      readLines p.lines = some [.tfrP4r 1, .tfriIfTnew 0 5 5] ∧
      ∀ j ∈ [Instr.tfrP4r 1, .tfriIfTnew 0 5 5], (0 : PReg) ∈ j.role.preds → j.role.quad = true) :=
  ⟨⟨_, rfl, by decide +kernel, by decide +kernel, by decide +kernel⟩, _, rfl, by decide +kernel, by decide +kernel⟩

/-- Every packet of `test_meets_RestrictedSharingIsRefused` has two instructions that can generate `P0`. -/
theorem test_meets_CanGenerate : ∀ i ∈ [Instr.sfcmpEq 0 1 2, .cmpEqRi 0 3 0, .andPp 0 1 2, .tfrPr 0 1, .sfclass 0 1 8,
    .tfrP4r 1], CanGenerate i 0 := by
  intro i h
  simp only [List.mem_cons, List.not_mem_nil, or_false] at h
  rcases h with rfl | rfl | rfl | rfl | rfl | rfl <;> exact ⟨State.reset, _, _, rfl, rfl, List.mem_cons_self ..⟩

/-- A restricted writer, a transfer, a predicate logical instruction with `AutoAndLogical` off, and `sfclass` with
`AutoAndOther` off. -/
theorem test_meets_RestrictedSharingIsRefused :
    let s := put [] [] ["P0 = sfcmp.eq(R1,R2)", "P0 = cmp.eq(R3,#0)"]
    let u := put [] [] ["P0 = cmp.eq(R3,#0)", "P0 = and(P1,P2)"]
    let x := put [] [] ["P0 = cmp.eq(R3,#0)", "P0 = R1"]
    let y := put [] [] ["P0 = sfclass(R1,#8)", "P0 = cmp.eq(R3,#0)"]
    (∃ p, s.launch.packetAt s.pc = some p ∧
      readLines p.lines = some ([] ++ Instr.sfcmpEq 0 1 2 :: [] ++ Instr.cmpEqRi 0 3 0 :: []) ∧
      (0 : PReg) ∈ (Instr.sfcmpEq 0 1 2).role.preds ∧ (0 : PReg) ∈ (Instr.cmpEqRi 0 3 0).role.preds ∧
      s.launch.mayShare (Instr.sfcmpEq 0 1 2).role.sharing = false) ∧
    (∃ p, u.launch.packetAt u.pc = some p ∧
      readLines p.lines = some ([] ++ Instr.cmpEqRi 0 3 0 :: [] ++ Instr.andPp 0 1 2 :: []) ∧
      (0 : PReg) ∈ (Instr.andPp 0 1 2).role.preds ∧ u.launch.mayShare (Instr.andPp 0 1 2).role.sharing = false) ∧
    (∃ p, x.launch.packetAt x.pc = some p ∧
      readLines p.lines = some ([] ++ Instr.cmpEqRi 0 3 0 :: [] ++ Instr.tfrPr 0 1 :: []) ∧
      (0 : PReg) ∈ (Instr.tfrPr 0 1).role.preds ∧ x.launch.mayShare (Instr.tfrPr 0 1).role.sharing = false) ∧
    (∃ p, y.launch.packetAt y.pc = some p ∧
      readLines p.lines = some ([] ++ Instr.sfclass 0 1 8 :: [] ++ Instr.cmpEqRi 0 3 0 :: []) ∧
      (0 : PReg) ∈ (Instr.sfclass 0 1 8).role.preds ∧ y.launch.mayShare (Instr.sfclass 0 1 8).role.sharing = false) :=
  ⟨⟨_, rfl, by decide +kernel, by decide +kernel, by decide +kernel, by decide +kernel⟩,
    ⟨_, rfl, by decide +kernel, by decide +kernel, by decide +kernel⟩,
    ⟨_, rfl, by decide +kernel, by decide +kernel, by decide +kernel⟩,
    _, rfl, by decide +kernel, by decide +kernel, by decide +kernel⟩

/-- Two stores that share their last and first byte, and a store with a load after it. -/
theorem test_meets_OverlappingAccessesAreRefused :
    let s := put [(4, 0x1000), (5, 0x1003)] [] ["memw(R4) = R6", "memb(R5) = R6"]
    let is := [] ++ Instr.memwSt 4 6 :: [] ++ Instr.membSt 5 6 :: []
    let u := put [(4, 0x1000), (5, 0x1003)] [] ["memw(R4) = R6", "R7 = memb(R5)"]
    let js := [] ++ Instr.memwSt 4 6 :: [] ++ Instr.membLd 7 5 :: []
    (AtPacket s is ∧ (∀ k ∈ is, isNext (exec k (s.generated is)) = true) ∧
      duplicate (is.flatMap fun k => (effectsOf (exec k (s.generated is))).regs) = none ∧
      ∃ x ∈ (effectsOf (exec (.memwSt 4 6) (s.generated is))).stores,
        (∃ y ∈ (effectsOf (exec (.membSt 5 6) (s.generated is))).stores,
          y.addr.toNat ≤ 0x1003 ∧ 0x1003 < y.addr.toNat + y.bytes.length) ∧
        x.addr.toNat ≤ 0x1003 ∧ 0x1003 < x.addr.toNat + x.bytes.length) ∧
    (AtPacket u js ∧ (∀ k ∈ js, isNext (exec k (u.generated js)) = true) ∧
      duplicate (js.flatMap fun k => (effectsOf (exec k (u.generated js))).regs) = none ∧
      ∃ x ∈ (effectsOf (exec (.memwSt 4 6) (u.generated js))).stores,
        (∃ y ∈ (effectsOf (exec (.membLd 7 5) (u.generated js))).loads,
          y.addr.toNat ≤ 0x1003 ∧ 0x1003 < y.addr.toNat + y.size) ∧
        x.addr.toNat ≤ 0x1003 ∧ 0x1003 < x.addr.toNat + x.bytes.length) :=
  ⟨⟨atPacket_of (by decide +kernel), by decide +kernel, by decide +kernel, by decide +kernel⟩,
    atPacket_of (by decide +kernel), by decide +kernel, by decide +kernel, by decide +kernel⟩

theorem test_meets_NoReservationMeansNoStore :
    (locked "").resv = none ∧ RoomAfter (locked "") 1 ∧
    (AtPacket (locked "memw_locked(R4,P0) = R5") [.memwLockedSt 4 0 5] ∧
      AccessOk (locked "memw_locked(R4,P0) = R5") 0x1000#32 4 .write) ∧
    (AtPacket (locked "memd_locked(R4,P0) = R7:6") [.memdLockedSt 4 0 3] ∧
      AccessOk (locked "memd_locked(R4,P0) = R7:6") 0x1000#32 8 .write) :=
  ⟨by decide +kernel, room_of (by decide +kernel),
    ⟨atPacket_of (by decide +kernel), by decide +kernel, by decide +kernel⟩,
    ⟨atPacket_of (by decide +kernel), by decide +kernel, by decide +kernel⟩⟩

/-- One number below and one above the range of each kind of immediate. -/
theorem test_immediates_out_of_range : (∀ i ∈ [Instr.cmpEqRi 0 1 (-513), .cmpEqRi 0 1 512, .cmpGtuRi 0 1 (-1),
    .cmpGtuRi 0 1 512, .cmpbEqRi 0 1 256, .cmphEqRi 0 1 (-129), .cmphEqRi 0 1 128, .cmpbGtuRi 0 1 128, .cmpGeuRi 0 1 256,
    .sfclass 0 1 32, .tstbitRi 0 1 32, .bitsclrRi 0 1 64, .tfri 1 (-32769), .tfri 1 32768, .tfriIfT 0 1 (-2049),
    .tfriIfT 0 1 2048, .addRi 1 2 32768, .addRiIfT 0 1 2 (-129), .addRiIfT 0 1 2 128], i.immediateOk = false) := by decide +kernel

/-- One packet for each of the clauses. -/
theorem test_meets_StaticFormRefusals :
    let s := fun line => put [] [] [line]
    let u := fun line => { s line with launch := { (s line).launch with gkOn := false, tlbmatchOn := false } }
    (∃ p, (s "P0 = cmp.eq(R2,#512)").launch.packetAt 0x100#32 = some p ∧ 1 ≤ p.lines.length ∧ p.lines.length ≤ 4 ∧
      readLines p.lines = some [.cmpEqRi 0 2 512] ∧ (Instr.cmpEqRi 0 2 512).immediateOk = false) ∧
    (∃ p, (s "jump M").launch.packetAt 0x100#32 = some p ∧ readLines p.lines = some [.jump (ascii "M")] ∧
      (Instr.jump (ascii "M")).immediateOk = true ∧ (Instr.jump (ascii "M")).op.label = some (ascii "M") ∧
      (s "jump M").launch.labelAddr (ascii "M") = none) ∧
    (∃ p, (u "jumpr R1").launch.packetAt 0x100#32 = some p ∧ readLines p.lines = some [.jumpr 1] ∧
      (Instr.jumpr 1).role.switch = some .gk ∧ (u "jumpr R1").launch.switchOn .gk = false ∧
      (u "jumpr R1").launch.gkOn = false) ∧
    (∃ p, (u "P0 = tlbmatch(R1:0,R2)").launch.packetAt 0x100#32 = some p ∧
      readLines p.lines = some [.tlbmatch 0 0 2] ∧ (u "P0 = tlbmatch(R1:0,R2)").launch.tlbmatchOn = false) ∧
    (u "jumpr R1").launch.haltPc ≠ some 0x100#32 :=
  ⟨⟨_, rfl, by decide +kernel, by decide +kernel, by decide +kernel, by decide +kernel⟩,
    ⟨_, rfl, by decide +kernel, by decide +kernel, by decide +kernel, by decide +kernel⟩,
    ⟨_, rfl, by decide +kernel, by decide +kernel, by decide +kernel, by decide +kernel⟩,
    ⟨_, rfl, by decide +kernel, by decide +kernel⟩, by decide +kernel⟩

theorem test_meets_RunsEndOrStopOffTheProgram :
    ({ dotNew with launch := { dotNew.launch with haltPc := some 0x100#32 } } : State).launch.haltPc = some dotNew.pc ∧
    State.reset.launch.haltPc ≠ some State.reset.pc ∧ State.reset.launch.packetAt State.reset.pc = none := by decide +kernel

/-- The ends of the ranges. -/
theorem test_meets_AssemblerMappingsKeepTheMeaning :
    (-128 ≤ (-128 : Int) ∧ (-128 : Int) ≤ 127) ∧ (-128 ≤ (127 : Int) ∧ (127 : Int) ≤ 127) ∧
    (1 ≤ (1 : Int) ∧ (1 : Int) ≤ 255) ∧ (1 ≤ (255 : Int) ∧ (255 : Int) ≤ 255) := by decide

end Sys2Proof.Tests
end

section
/-!
PROOFS, the statements of `spec/10_state.md`: the state after reset, the invariant of every step, the alignment of the
pc, and the general registers that a packet leaves. What a step commits is said once (`step_next_commit`), what an
instruction of the packet contributes once (`effectsOf_exec_allowed`); the four statements follow from these.
-/

namespace Sys2Proof.Machine

/-! ### What a step commits -/

/-- A step answers a next state only at an admitted packet (R300 phase 0). -/
theorem step_next_atPacket {s t : State} (h : step s = .next t) : ∃ is, AtPacket s is := by
  obtain ⟨p, is, hhalt, hp, his, -⟩ := step_next h
  exact ⟨is, hhalt, p, hp, his⟩

/-- A step that answers a next state commits the merged effects of the packet's instructions (R300 phase 5). -/
theorem step_next_commit {s t : State} {is : List Instr} (hat : AtPacket s is) (h : step s = .next t) :
    ∃ pc, s.nextPc is.length (merged (outcomes is (s.generated is))) = some pc ∧
      t = s.commit (s.generated is).pkt.newP (merged (outcomes is (s.generated is))) pc := by
  rw [step_atPacket hat] at h
  obtain ⟨-, -, -, pc, hpc, ht⟩ := runPacket_next h
  exact ⟨pc, hpc, ht⟩

/-- What an instruction contributes to its packet is what its role allows, also where it has no next state: then it
contributes nothing. -/
theorem effectsOf_exec_allowed (i : Instr) (s : State) (is : List Instr) :
    Allowed i.role Effects.none (effectsOf (exec i (s.generated is))) := by
  cases h : exec i (s.generated is) with
  | next u => exact exec_allowed i _ u h
  | fault _ => exact Allowed.refl _ _
  | refused _ => exact Allowed.refl _ _

/-- The bytes of every store of a packet lie below `2^32` (R33). -/
theorem merged_stores_bound {s : State} {is : List Instr} {x : Store}
    (hx : x ∈ (merged (outcomes is (s.generated is))).stores) : x.addr.toNat + x.bytes.length ≤ 2 ^ 32 := by
  obtain ⟨o, ho, hx⟩ := mem_merged_stores.1 hx
  obtain ⟨i, -, rfl⟩ := mem_outcomes.1 ho
  obtain ⟨xs, hxs, -, hbound⟩ := (effectsOf_exec_allowed i s is).stores
  rw [hxs] at hx
  exact hbound x hx

/-- Every general-register write of a packet is to a destination of one of its instructions (R320). -/
theorem merged_regs_destination {s : State} {is : List Instr} {w : GReg × Word}
    (hw : w ∈ (merged (outcomes is (s.generated is))).regs) : ∃ i ∈ is, w.1 ∈ i.role.regs := by
  obtain ⟨o, ho, hw⟩ := mem_merged_regs.1 hw
  obtain ⟨i, hi, rfl⟩ := mem_outcomes.1 ho
  obtain ⟨ws, hws, hdest⟩ := (effectsOf_exec_allowed i s is).regs
  rw [hws] at hw
  exact ⟨i, hi, hdest w hw⟩

theorem merged_cons (o : Result) (os : List Result) : merged (o :: os) = (effectsOf o).merge (merged os) := rfl

/-- The target of a packet is the target of one of its instructions. -/
theorem merged_target_some {os : List Result} {a : Word} (h : (merged os).target = some a) :
    ∃ o ∈ os, (effectsOf o).target = some a := by
  by_contra hno
  push Not at hno
  induction os with
  | nil => cases h
  | cons o os ih =>
    rw [merged_cons, Effects.merge_target] at h
    rcases Option.or_eq_some_iff.1 h with h | ⟨-, h⟩
    · exact hno o List.mem_cons_self h
    · exact ih h fun o' ho' => hno o' (List.mem_cons_of_mem _ ho')

/-! ### Where a transfer of control leads (R210, R304) -/

/-- The address of a label is the address of a packet of the program (R60). -/
theorem labelAddr_mem {l : Launch} {name : Label} {a : Word} (h : l.labelAddr name = some a) :
    ∃ p ∈ l.packets, p.addr = a := by
  obtain ⟨p, hp, ha⟩ := Option.map_eq_some_iff.1 h
  exact ⟨p, List.mem_of_find?_eq_some hp, ha⟩

/-- A jump to a label records the address of that label (R210). -/
theorem execJump_target {lbl : Label} {s u : State} (h : execJump lbl s = .next u) :
    s.launch.labelAddr lbl = u.pkt.effects.target := by
  obtain ⟨a, ha, hu⟩ := withLabel_next h
  cases hu
  exact ha

/-- A guarded jump records the address of its label, or nothing (R201, R210). -/
theorem guarded_execJump_target {g : Guard} {lbl : Label} {s u : State} {a : Word}
    (h : guarded g (execJump lbl) s = .next u) (hs : s.pkt.effects.target = none)
    (ha : u.pkt.effects.target = some a) : s.launch.labelAddr lbl = some a := by
  rcases guarded_next h with ⟨-, h⟩ | ⟨-, rfl⟩
  · rw [execJump_target h, ha]
  · rw [hs] at ha; cases ha

/-- An instruction that records a pc target and needs no `AdmitGK` is a jump to a label: of the transfers of control
only these are admitted without the switch (D30). -/
theorem target_label_of_not_gk {i : Instr} {s u : State} {a : Word} (h : exec i s = .next u)
    (hs : s.pkt.effects.target = none) (ha : u.pkt.effects.target = some a) (hgk : i.role.switch ≠ some .gk) :
    ∃ lbl, s.launch.labelAddr lbl = some a := by
  have hc : i.role.control = true := control_of_target h hs ha
  cases i with
  | jump lbl => exact ⟨lbl, (execJump_target h).trans ha⟩
  | jumpIfT _ lbl | jumpIfF _ lbl | jumpIfTnew _ lbl | jumpIfFnew _ lbl =>
    exact ⟨lbl, guarded_execJump_target h hs ha⟩
  | call | callIfT | callIfF | callIfTnew | callIfFnew | jumpr | jumprIfT | jumprIfF | jumprIfTnew | jumprIfFnew
  | callr | callrIfT | callrIfF | callrIfTnew | callrIfFnew | deallocReturn | deallocReturnIfT | deallocReturnIfF
  | deallocReturnIfTnew | deallocReturnIfFnew => exact absurd rfl hgk
  | _ => cases hc

/-- With `AdmitGK` off, no instruction of an admitted packet needs it (R324, D30). -/
theorem switch_ne_gk_of_atPacket {s : State} {is : List Instr} (h : AtPacket s is) (hoff : s.launch.gkOn = false)
    {i : Instr} (hi : i ∈ is) : i.role.switch ≠ some .gk := by
  intro hgk
  have hall : is.any s.launch.lacksSwitch = false :=
    check_atPacket h (c := (is.any s.launch.lacksSwitch, .illFormedPacket .switchedOff)) (by simp [Launch.checks])
  have hlacks : s.launch.lacksSwitch i = true := by simp [Launch.lacksSwitch, hgk, Launch.switchOn, hoff]
  exact List.any_eq_false.1 hall i hi hlacks

/-- With `AdmitGK` off, the target of a packet is the address of a packet of the program. -/
theorem merged_target_mem {s : State} {is : List Instr} (h : AtPacket s is) (hoff : s.launch.gkOn = false) {a : Word}
    (ha : (merged (outcomes is (s.generated is))).target = some a) : ∃ p ∈ s.launch.packets, p.addr = a := by
  obtain ⟨o, ho, ha⟩ := merged_target_some ha
  obtain ⟨i, hi, rfl⟩ := mem_outcomes.1 ho
  cases hu : exec i (s.generated is) with
  | next u =>
    rw [hu] at ha
    obtain ⟨lbl, hlbl⟩ := target_label_of_not_gk hu rfl ha (switch_ne_gk_of_atPacket h hoff hi)
    exact labelAddr_mem hlbl
  | fault _ => rw [hu] at ha; cases ha
  | refused _ => rw [hu] at ha; cases ha

/-- The next pc is the target, or lies `INSN_BYTES` per instruction after the pc, without wrap (R304, R19). -/
theorem nextPc_cases {s : State} {n : Nat} {e : Effects} {pc : Word} (h : s.nextPc n e = some pc) :
    e.target = some pc ∨ pc.toNat = s.pc.toNat + Config.insnBytes * n := by
  unfold State.nextPc at h
  split at h
  · exact .inl (‹e.target = some _›.trans h)
  · right
    obtain ⟨hroom, hpc⟩ := Option.ite_none_right_eq_some.1 h
    rw [← Option.some.inj hpc, BitVec.toNat_add, BitVec.toNat_ofNat, Nat.add_mod_mod, Nat.mod_eq_of_lt hroom]

/-! ### The statements -/

/-- Settles O32: a commit drops the packet-local values, and its stores lie in the address space. -/
theorem everyStepKeepsTheInvariant : Obligations.EveryStepKeepsTheInvariant := by
  rintro s t ⟨hmem, -⟩ h
  obtain ⟨is, hat⟩ := step_next_atPacket h
  obtain ⟨pc, -, rfl⟩ := step_next_commit hat h
  exact ⟨wf_commitStores s.mem _ (fun _ hx => merged_stores_bound hx) hmem, State.commit_pkt ..⟩

/-- Settles O34: the next pc is the address of a packet, or a multiple of `INSN_BYTES` after the pc. -/
theorem pcStaysAligned : Obligations.PcStaysAligned := by
  rintro s t ⟨hpc, hoff, hprog⟩ h
  obtain ⟨is, hat⟩ := step_next_atPacket h
  obtain ⟨pc, hnext, rfl⟩ := step_next_commit hat h
  refine ⟨?_, hoff, hprog⟩
  rw [State.commit_pc]
  rcases nextPc_cases hnext with htarget | hseq
  · obtain ⟨p, hp, rfl⟩ := merged_target_mem hat hoff htarget
    exact hprog p hp
  · rw [hseq, Nat.add_mul_mod_self_left, hpc]

/-- Settles O36: every committed register write is to a destination of some instruction of the packet. -/
theorem otherRegistersKeepTheirValue : Obligations.OtherRegistersKeepTheirValue := by
  intro s t is r hat h hr
  obtain ⟨pc, -, rfl⟩ := step_next_commit hat h
  refine ⟨commitRegs_other fun w hw hwr => ?_, State.commit_launch ..⟩
  obtain ⟨i, hi, hdest⟩ := merged_regs_destination hw
  exact hr i hi (hwr ▸ hdest)

/-- Settles O33. -/
theorem resetHasTheInvariant : Obligations.ResetHasTheInvariant :=
  ⟨⟨reset_mem_wf, State.reset_pkt⟩, State.reset_resv, Memory.find_nil⟩

end Sys2Proof.Machine
end

section
/-!
PROOFS, the statements of `spec/20_memory.md`: the byte order, which accesses stop, the store conditional, and what a
packet does to memory and to the reservation. What a bad access does is said once for `checked`, what a store
conditional does once for both sizes; the statements about steps follow from what a step commits (`step_next_commit`).
-/

namespace Sys2Proof.Machine

/-! ### Byte order (R31, R32) -/

/-- Byte `i` of a loaded value is the byte at the address plus `i`. -/
theorem load_extract_byte (s : State) (a : Word) {n i : Nat} (h : i < n) :
    (s.load a n (8 * n)).extractLsb' (8 * i) 8 = s.byteAt (a.toNat + i) := by
  apply BitVec.eq_of_toNat_eq
  rw [State.load, BitVec.extractLsb'_toNat, BitVec.toNat_ofNat, Nat.mod_eq_of_lt (valueAt_lt s _ n),
    Nat.shiftRight_eq_div_pow, pow_mul]
  exact valueAt_byte s a.toNat n i h

/-- The byte read at an address where consecutive bytes have been written is the one written there. -/
theorem byteAt_putBytes {s : State} {a : Nat} {vs : List Byte} {i : Nat} {v : Byte} (h : vs[i]? = some v) :
    State.byteAt { s with mem := s.mem.putBytes a vs } (a + i) = v := by
  have hi : i < vs.length := (List.getElem?_eq_some_iff.1 h).1
  simp only [State.byteAt, Memory.find_putBytes]
  rw [if_pos (by omega), Nat.add_sub_cancel_left, h, Option.getD_some]

/-- Words whose four bytes are equal are equal. -/
theorem word_ext_bytes {x y : Word} (h : ∀ i < 4, x.extractLsb' (8 * i) 8 = y.extractLsb' (8 * i) 8) : x = y := by
  apply BitVec.eq_of_getLsbD_eq
  intro k hk
  have hbyte := congrArg (·.getLsbD (k % 8)) (h (k / 8) (by omega))
  have hmod : k % 8 < 8 := Nat.mod_lt _ (by decide)
  simpa only [BitVec.getLsbD_extractLsb', hmod, decide_true, Bool.true_and, Nat.div_add_mod] using hbyte

/-- Byte `i` of the high word of a doubleword is its byte `4 + i`. -/
theorem highWord_extract_byte (v : DWord) {i : Nat} (h : i < 4) :
    (v.extractLsb' 32 32).extractLsb' (8 * i) 8 = v.extractLsb' (8 * (4 + i)) 8 := by
  apply BitVec.eq_of_getLsbD_eq
  intro k hk
  have hlow : 8 * i + k < 32 := by omega
  simp only [BitVec.getLsbD_extractLsb', hk, hlow, decide_true, Bool.true_and]
  congr 1
  omega

/-- The word read four bytes after a stored doubleword is its high word. -/
theorem load_highWord_of_stored (s : State) (a : Word) (v : DWord) (h : a.toNat + 8 ≤ 2 ^ 32) :
    State.load { s with mem := s.mem.putBytes a.toNat (littleBytes v 8) } (a + 4#32) 4 32 = v.extractLsb' 32 32 := by
  have haddr : (a + 4#32).toNat = a.toNat + 4 := by
    rw [BitVec.toNat_add, BitVec.toNat_ofNat]
    omega
  apply word_ext_bytes
  intro i hi
  rw [load_extract_byte _ _ hi, haddr, Nat.add_assoc, highWord_extract_byte v hi]
  exact byteAt_putBytes (littleBytes_get v 8 (4 + i) (by omega))

/-- Settles O44. -/
theorem loadedValueIsLittleEndian : Obligations.LoadedValueIsLittleEndian :=
  ⟨fun s a _ _ _ hi => load_extract_byte s a hi, fun v n i _ hi => littleBytes_get v n i hi, load_highWord_of_stored⟩

/-! ### Accesses (R33, R34) -/

theorem aligned_iff {a : Word} {n : Nat} : aligned a n = true ↔ a.toNat % n = 0 ∧ a.toNat + n ≤ 2 ^ 32 := by
  simp [aligned]

/-- The result `r` of an access of `n` bytes at `a` stops as R33 and R34 say: a misaligned access faults, an aligned one
without permission raises the violation. -/
def StopsIfBad (s : State) (r : Result) (a : Word) (n : Nat) (kind : AccessKind) : Prop :=
  (¬(a.toNat % n = 0 ∧ a.toNat + n ≤ 2 ^ 32) → r = .fault (.misalignedAccess a n)) ∧
    (a.toNat % n = 0 ∧ a.toNat + n ≤ 2 ^ 32 → s.permits a n kind = false →
      r = .fault (.raised (.memoryPermissionViolation a kind)))

/-- Every access goes through the checks, alignment first. -/
theorem checked_stopsIfBad (s : State) (a : Word) (n : Nat) (kind : AccessKind) (access : State → Result) :
    StopsIfBad s (checked a n kind access s) a n kind := by
  rw [StopsIfBad, ← aligned_iff]
  exact ⟨fun h => checked_misaligned access (Bool.not_eq_true _ ▸ h), checked_denied access⟩

/-- Settles O50: every one of the accesses goes through the checks. -/
theorem badAccessesStop : Obligations.BadAccessesStop := by
  intro pd rd rs rt rdd rtt s
  simp only [List.forall_mem_cons, exec, execMemwLd, execMemdLd, execMembLd, execMemubLd, execMemhLd, execMemuhLd,
    execMemwSt, execMemdSt, execMembSt, execMemhSt, execMemwLockedSt, execMemdLockedSt, execDeallocReturn, loading,
    storing, storeConditional]
  refine ⟨?memwLd, ?memdLd, ?membLd, ?memubLd, ?memhLd, ?memuhLd, ?memwSt, ?memdSt, ?membSt, ?memhSt, ?memwLocked,
    ?memdLocked, ?deallocReturn, fun _ h => nomatch h⟩
  case memwLd | memdLd | membLd | memubLd | memhLd | memuhLd | memwSt | memdSt | membSt | memhSt | memwLocked
    | memdLocked | deallocReturn => exact checked_stopsIfBad s ..

/-! ### The store conditional (R40) -/

/-- A store conditional whose access is in order and whose reservation does not match stores nothing. -/
theorem storeConditional_noMatch {w : Nat} {s : State} {a : Word} {z : ResvSize} (v : BitVec w) (pd : PReg)
    (h : AccessOk s a z.bytes .write) (hresv : s.resv ≠ some { addr := a, size := z }) :
    storeConditional a z v pd s = .next (s.recordClearResv.recordPred pd 0x00#8) := by
  rw [storeConditional_ok v pd h]
  simp [State.scSucceeds, hresv]

/-- With a matching reservation the draw decides. -/
theorem storeConditional_match {w : Nat} {s : State} {a : Word} {z : ResvSize} (v : BitVec w) (pd : PReg)
    (h : AccessOk s a z.bytes .write) (hresv : s.resv = some { addr := a, size := z }) :
    storeConditional a z v pd s = .next (if Config.scOutcome s.tick pd.val = true
      then ((s.recordStore a (littleBytes v z.bytes)).recordClearResv).recordPred pd 0xFF#8
      else s.recordClearResv.recordPred pd 0x00#8) := by
  rw [storeConditional_ok v pd h, State.scSucceeds, decide_eq_true hresv, Bool.true_and]
  split <;> rfl

/-- An executed store conditional clears the reservation, whether it stores or not. -/
theorem storeConditional_clearsResv {w : Nat} {s u : State} {a : Word} {z : ResvSize} {v : BitVec w} {pd : PReg}
    (h : storeConditional a z v pd s = .next u) : u.pkt.effects.clearsResv = true := by
  obtain ⟨-, -, ⟨-, rfl⟩ | ⟨-, rfl⟩⟩ := storeConditional_next h
  · rfl
  · rfl

/-- Settles O10. -/
theorem storeConditionalOutcomes : Obligations.StoreConditionalOutcomes := by
  intro rs rt rtt pd s
  exact ⟨fun hok => ⟨storeConditional_noMatch (z := .word) _ pd hok, storeConditional_match (z := .word) _ pd hok⟩,
    fun hok => ⟨storeConditional_noMatch (z := .dword) _ pd hok, storeConditional_match (z := .dword) _ pd hok⟩⟩

/-! ### What the instructions of a packet contribute (R300 phase 3) -/

theorem mem_stores_of_outcomes {is : List Instr} {s : State} {x : Store} :
    x ∈ (merged (outcomes is s)).stores ↔ ∃ i ∈ is, x ∈ (effectsOf (exec i s)).stores := by
  simp [mem_merged_stores, mem_outcomes]

theorem mem_loads_of_outcomes {is : List Instr} {s : State} {x : Load} :
    x ∈ (merged (outcomes is s)).loads ↔ ∃ i ∈ is, x ∈ (effectsOf (exec i s)).loads := by
  simp [mem_merged_loads, mem_outcomes]

theorem clearsResv_of_outcomes {is : List Instr} {s : State} :
    (merged (outcomes is s)).clearsResv = true ↔ ∃ i ∈ is, (effectsOf (exec i s)).clearsResv = true := by
  simp [merged_clearsResv, mem_outcomes]

/-! ### What a packet does to memory (R30, R300) -/

/-- The commit of stores leaves every byte that lies in none of them. -/
theorem find_commitStores_of_not_within {m : Memory} {xs : List Store} {b : Nat}
    (h : ∀ x ∈ xs, ¬Within x.addr x.bytes.length b) : (commitStores m xs).find b = m.find b := by
  induction xs generalizing m with
  | nil => rfl
  | cons x xs ih =>
    obtain ⟨hx, hxs⟩ := List.forall_mem_cons.1 h
    calc (commitStores m (x :: xs)).find b
        = (commitStores (m.putBytes x.addr.toNat x.bytes) xs).find b := rfl
      _ = (m.putBytes x.addr.toNat x.bytes).find b := ih hxs
      _ = m.find b := by rw [Memory.find_putBytes]; exact if_neg hx

/-- A packet without a memory instruction stores nothing (R44). -/
theorem merged_stores_eq_nil {s : State} {is : List Instr} (h : ∀ i ∈ is, i.role.memory = false) :
    (merged (outcomes is (s.generated is))).stores = [] := by
  refine List.eq_nil_iff_forall_not_mem.2 fun x hx => ?_
  obtain ⟨i, hi, hx⟩ := mem_stores_of_outcomes.1 hx
  obtain ⟨xs, hxs, hnil, -⟩ := (effectsOf_exec_allowed i s is).stores
  rw [hxs, hnil (h i hi)] at hx
  cases hx

/-- Settles O39: the memory of the next state is the old one with the packet's stores committed. -/
theorem memoryChangesOnlyWhereStored : Obligations.MemoryChangesOnlyWhereStored := by
  intro s t is hat h
  obtain ⟨pc, -, rfl⟩ := step_next_commit hat h
  refine ⟨fun b hb => find_commitStores_of_not_within fun x hx => ?_, fun hmem => ?_⟩
  · obtain ⟨i, hi, hx⟩ := mem_stores_of_outcomes.1 hx
    exact hb i hi x hx
  · rw [State.commit_mem, merged_stores_eq_nil hmem]
    rfl

/-! ### What a packet does to the reservation (R40, R300) -/

/-- The store conditionals are the only memory instructions that write a predicate register (R308). -/
theorem storeConditional_of_role {i : Instr} (hmem : i.role.memory = true) (hpreds : i.role.preds ≠ []) :
    (∃ rs pd rt, i = .memwLockedSt rs pd rt) ∨ (∃ rs pd rtt, i = .memdLockedSt rs pd rtt) := by
  cases i with
  | memwLockedSt rs pd rt => exact .inl ⟨rs, pd, rt, rfl⟩
  | memdLockedSt rs pd rtt => exact .inr ⟨rs, pd, rtt, rfl⟩
  | memwLd | memwLdIfT | memwLdIfF | memwLdIfTnew | memwLdIfFnew | memdLd | memdLdIfT | memdLdIfF | memdLdIfTnew
  | memdLdIfFnew | membLd | membLdIfT | membLdIfF | membLdIfTnew | membLdIfFnew | memubLd | memubLdIfT | memubLdIfF
  | memubLdIfTnew | memubLdIfFnew | memhLd | memhLdIfT | memhLdIfF | memhLdIfTnew | memhLdIfFnew | memuhLd
  | memuhLdIfT | memuhLdIfF | memuhLdIfTnew | memuhLdIfFnew | memwSt | memwStIfT | memwStIfF | memwStIfTnew
  | memwStIfFnew | memdSt | memdStIfT | memdStIfF | memdStIfTnew | memdStIfFnew | membSt | membStIfT | membStIfF
  | membStIfTnew | membStIfFnew | memhSt | memhStIfT | memhStIfF | memhStIfTnew | memhStIfFnew | deallocReturn
  | deallocReturnIfT | deallocReturnIfF | deallocReturnIfTnew | deallocReturnIfFnew => exact absurd rfl hpreds
  | _ => cases hmem

/-- Only a store conditional clears the reservation. -/
theorem storeConditional_of_clearsResv {i : Instr} {s : State} {is : List Instr}
    (h : (effectsOf (exec i (s.generated is))).clearsResv = true) :
    (∃ rs pd rt, i = .memwLockedSt rs pd rt) ∨ (∃ rs pd rtt, i = .memdLockedSt rs pd rtt) := by
  rcases (effectsOf_exec_allowed i s is).clearsResv with hnone | ⟨hmem, hpreds⟩
  · rw [hnone] at h; cases h
  · exact storeConditional_of_role hmem hpreds

/-- After a step whose packet holds an instruction that clears the reservation, there is none. -/
theorem step_next_resv_none {s t : State} {is : List Instr} {i : Instr} (hat : AtPacket s is) (h : step s = .next t)
    (hi : i ∈ is) (hclear : ∀ u, exec i (s.generated is) = .next u → u.pkt.effects.clearsResv = true) :
    t.resv = none := by
  rw [step_atPacket hat] at h
  obtain ⟨hnext, -, -, pc, -, rfl⟩ := runPacket_next h
  obtain ⟨u, hu⟩ := hnext i hi
  have hmerged : (merged (outcomes is (s.generated is))).clearsResv = true :=
    clearsResv_of_outcomes.2 ⟨i, hi, by rw [hu]; exact hclear u hu⟩
  rw [State.commit_resv, if_pos hmerged]

/-- Settles O40: exactly the store conditionals clear the reservation. -/
theorem reservationRule : Obligations.ReservationRule := by
  intro s t is hat h
  constructor
  · rintro (⟨rs, pd, rt, hi⟩ | ⟨rs, pd, rtt, hi⟩)
    · exact step_next_resv_none hat h hi fun _ hu => storeConditional_clearsResv hu
    · exact step_next_resv_none hat h hi fun _ hu => storeConditional_clearsResv hu
  · rintro ⟨hw, hd⟩
    obtain ⟨pc, -, rfl⟩ := step_next_commit hat h
    rw [State.commit_resv, if_neg]
    intro hclear
    obtain ⟨i, hi, hclear⟩ := clearsResv_of_outcomes.1 hclear
    rcases storeConditional_of_clearsResv hclear with ⟨rs, pd, rt, rfl⟩ | ⟨rs, pd, rtt, rfl⟩
    · exact hw rs pd rt hi
    · exact hd rs pd rtt hi

/-! ### Overlapping accesses (R44) -/

/-- Byte ranges that share a byte overlap. -/
theorem overlap_of_within {a c : Word} {n m b : Nat} (ha : Within a n b) (hc : Within c m b) :
    overlap a.toNat n c.toNat m = true := by
  obtain ⟨ha, han⟩ := ha
  obtain ⟨hc, hcm⟩ := hc
  rw [overlap, Bool.and_eq_true, decide_eq_true_eq, decide_eq_true_eq]
  omega

/-- A load that shares a byte with a store of the packet overlaps it. -/
theorem overlapping_of_load {e : Effects} {x : Store} {y : Load} {b : Nat} (hx : x ∈ e.stores) (hy : y ∈ e.loads)
    (hxb : Within x.addr x.bytes.length b) (hyb : Within y.addr y.size b) : e.overlapping = true :=
  Bool.or_eq_true_iff.2 (.inl (List.any_eq_true.2 ⟨y, hy, List.any_eq_true.2 ⟨x, hx, overlap_of_within hyb hxb⟩⟩))

/-- Two lists, one after the other in a longer one, hold a related pair if a member of the first is related to one of
the second. -/
theorem anyPair_of_mem_append {α : Type} {f : α → α → Bool} (l₁ l₂ l₃ : List α) {xs ys : List α} {x y : α}
    (hx : x ∈ xs) (hy : y ∈ ys) (h : f x y = true) : anyPair f (l₁ ++ xs ++ l₂ ++ ys ++ l₃) = true := by
  obtain ⟨xs₁, xs₂, rfl⟩ := List.append_of_mem hx
  obtain ⟨ys₁, ys₂, rfl⟩ := List.append_of_mem hy
  simpa only [List.append_assoc, List.cons_append] using
    anyPair_append f (l₁ ++ xs₁) (xs₂ ++ l₂ ++ ys₁) (ys₂ ++ l₃) x y h

/-- Stores of two instructions of a packet, at different places, that share a byte overlap. -/
theorem overlapping_of_stores {s : State} {l₁ l₂ l₃ : List Instr} {i j : Instr} {x y : Store} {b : Nat}
    (hx : x ∈ (effectsOf (exec i s)).stores) (hy : y ∈ (effectsOf (exec j s)).stores)
    (hxb : Within x.addr x.bytes.length b) (hyb : Within y.addr y.bytes.length b) :
    (merged (outcomes (l₁ ++ i :: l₂ ++ j :: l₃) s)).overlapping = true := by
  refine Bool.or_eq_true_iff.2 (.inr ?_)
  have hpair := anyPair_of_mem_append (f := Store.meets)
    (merged (outcomes l₁ s)).stores (merged (outcomes l₂ s)).stores (merged (outcomes l₃ s)).stores hx hy
    (overlap_of_within hxb hyb)
  simpa [merged_stores, outcomes, List.append_assoc] using hpair

/-- A packet whose instructions all have a next state, write no general register twice and make overlapping accesses is
refused. -/
theorem step_overlapping {s : State} {is : List Instr} (hat : AtPacket s is)
    (hnext : ∀ k ∈ is, ∃ u, exec k (s.generated is) = .next u)
    (hdup : duplicate (merged (outcomes is (s.generated is))).regs = none)
    (hover : (merged (outcomes is (s.generated is))).overlapping = true) :
    step s = .refused .overlappingPacketAccesses := by
  rw [step_atPacket hat, runPacket_finish hnext, State.finish, hdup]
  exact if_pos hover

/-- Settles O53: the packet's merged effects hold both accesses, in the order of the instructions. -/
theorem overlappingAccessesAreRefused : Obligations.OverlappingAccessesAreRefused := by
  intro s is l₁ l₂ l₃ i j x b his hat hnext hdup hshare hxb
  have hi : i ∈ is := by simp [his]
  have hj : j ∈ is := by simp [his]
  have hregs : duplicate (merged (outcomes is (s.generated is))).regs = none := by
    rw [merged_regs, outcomes, List.flatMap_map]
    exact hdup
  refine step_overlapping hat hnext hregs ?_
  rcases hshare with ⟨hx, ⟨y, hy, hyb⟩ | ⟨y, hy, hyb⟩⟩ | ⟨hx, ⟨y, hy, hyb⟩ | ⟨y, hy, hyb⟩⟩
  · exact his ▸ overlapping_of_stores (his ▸ hx) (his ▸ hy) hxb hyb
  · exact overlapping_of_load (mem_stores_of_outcomes.2 ⟨i, hi, hx⟩) (mem_loads_of_outcomes.2 ⟨j, hj, hy⟩) hxb hyb
  · exact his ▸ overlapping_of_stores (his ▸ hy) (his ▸ hx) hyb hxb
  · exact overlapping_of_load (mem_stores_of_outcomes.2 ⟨j, hj, hx⟩) (mem_loads_of_outcomes.2 ⟨i, hi, hy⟩) hxb hyb

/-! ### A packet of one instruction (R300) -/

/-- A packet of one instruction with one predicate result commits it to that register and leaves the other ones. -/
theorem commitPreds_generated_single {s u : State} {i : Instr} {pd : PReg} {v : Byte}
    (h : exec i (s.generated [i]) = .next u) (hpreds : u.pkt.effects.preds = [(pd, v)]) :
    commitPreds s.preds (s.generated [i]).pkt.newP = s.preds.set pd.val v := by
  have hresults : predResults [i] (s.begin [i].length) = [(pd, v)] := by
    rw [predResults_begin s [i] (List.forall_mem_singleton.2 ⟨u, h⟩)]
    simp [h, effectsOf, hpreds]
  ext1 d hd
  have hget := commitPreds_get s.preds (s.generated [i]).pkt.newP ⟨d, hd⟩
  rw [State.generated_newP, newValues_get, hresults] at hget
  refine hget.trans ?_
  by_cases hpd : pd.val = d
  · subst hpd
    simp [combined]
  · have hne : pd ≠ ⟨d, hd⟩ := fun e => hpd (congrArg Fin.val e)
    simp [combined, hne, Vector.getElem_set_ne _ _ hpd]

/-- With an address after the packet, a packet of `n` instructions that transfers no control goes on there (R304). -/
theorem nextPc_of_room {s : State} {n : Nat} {e : Effects} (hroom : RoomAfter s n) (htarget : e.target = none) :
    s.nextPc n e = some (s.pcAfter n) := by
  rw [State.nextPc, htarget]
  exact if_pos hroom

/-- A packet whose effects pass the checks of phase 4 commits them. -/
theorem finish_eq_commit {s : State} {n : Nat} {new : Vector (Option Byte) 4} {e : Effects} {pc : Word}
    (hdup : duplicate e.regs = none) (hover : e.overlapping = false) (hpc : s.nextPc n e = some pc) :
    s.finish n new e = .next (s.commit new e pc) := by
  simp [State.finish, hdup, hover, hpc]

/-- A packet of one instruction that clears the reservation, records one predicate result and nothing else leads, where
there is no reservation, to the state after the packet with that predicate register changed. -/
theorem step_single_clearing {s : State} {i : Instr} {pd : PReg} {v : Byte} (hat : AtPacket s [i])
    (hroom : RoomAfter s 1) (hresv : s.resv = none)
    (h : exec i (s.generated [i]) = .next ((s.generated [i]).recordClearResv.recordPred pd v)) :
    step s = .next { s.after 1 with preds := s.preds.set pd.val v } := by
  have hnext : ∀ k ∈ [i], ∃ u, exec k (s.generated [i]) = .next u := List.forall_mem_singleton.2 ⟨_, h⟩
  have hmerged : merged (outcomes [i] (s.generated [i])) =
      { Effects.none with preds := [(pd, v)], clearsResv := true } := by
    simp only [outcomes, List.map_cons, List.map_nil, h]
    rfl
  rw [step_atPacket hat, runPacket_finish hnext, hmerged]
  refine (finish_eq_commit rfl rfl (nextPc_of_room hroom rfl)).trans ?_
  rw [State.commit, commitPreds_generated_single h rfl, State.after, hresv]
  rfl

/-- Settles O54: without a reservation none matches, and the clearing of it changes nothing. -/
theorem noReservationMeansNoStore : Obligations.NoReservationMeansNoStore := by
  intro s rs rt rtt pd hresv hroom
  have hnone (z : Reservation) : s.resv ≠ some z := by simp [hresv]
  exact ⟨fun hat hok => step_single_clearing hat hroom hresv
      (storeConditional_noMatch (z := .word) _ pd hok (hnone _)),
    fun hat hok => step_single_clearing hat hroom hresv
      (storeConditional_noMatch (z := .dword) _ pd hok (hnone _))⟩

end Sys2Proof.Machine
end

section
/-!
PROOFS, the statements of `spec/30_encoding.md`: the text of an instruction reads back, hints and samples, the static
refusals of forms, and the assembler's mappings. A text is read in two stages, its tokens and then the line that they
spell (`decode_of_tokens`); a line is read as its guard, its operation and the instruction that the two make.
-/

namespace Sys2Proof.Machine

open Lexer

/-! ### The two stages of decoding (R50, R52) -/

/-- A text whose tokens spell an instruction decodes to it. -/
theorem decode_of_tokens {text : Text} {ts : List Token} {i : Instr} (htokens : tokens text = some ts)
    (hline : readLine ts = some i) : decode text = .ok i := by
  simp only [decode, htokens, hline]

/-- A text whose tokens spell no instruction is refused as such. -/
theorem decode_error_of_tokens {text : Text} {ts : List Token} (htokens : tokens text = some ts)
    (hline : readLine ts = none) : decode text = .error .noSuchInstruction := by
  simp only [decode, htokens, hline]

/-- What is spelt from tokens that can be spelt decodes to the instruction that the tokens are read as. -/
theorem decode_spell {ts : List Token} {i : Instr} (hok : ts.all Token.ok = true) (hline : readLine ts = some i) :
    decode (spell ts) = .ok i :=
  decode_of_tokens (tokens_spell ts hok) hline

/-! ### The tokens of a line can be spelt (R60) -/

/-- Of the tokens of an operation only a label can be unfit. -/
theorem operation_tokens_ok (op : Operation) : op.tokens.all Token.ok = op.label.elim true isLabel := by
  cases op with
  | jump lbl | call lbl => exact Bool.and_true _
  | _ => rfl

theorem guard_tokens_ok (g : Guard) : g.tokens.all Token.ok = true := by
  cases g <;> rfl

theorem line_tokens_ok (l : Line) : l.tokens.all Token.ok = l.op.label.elim true isLabel := by
  obtain ⟨_ | g, op⟩ := l
  · exact operation_tokens_ok op
  · simp only [Line.tokens, Option.elim_some, List.all_append, guard_tokens_ok, operation_tokens_ok, Bool.true_and]

theorem labelOk_eq (i : Instr) : i.labelOk = i.op.label.elim true isLabel := by
  unfold Instr.labelOk
  cases i.op.label <;> rfl

/-- An instruction whose label is a name can be spelt. -/
theorem instr_tokens_ok {i : Instr} (h : i.labelOk = true) : i.line.tokens.all Token.ok = true :=
  calc i.line.tokens.all Token.ok = i.line.op.label.elim true isLabel := line_tokens_ok i.line
    _ = i.labelOk := (labelOk_eq i).symm
    _ = true := h

/-! ### The tokens of a line read back (R52, R58) -/

/-- No operation begins like a guard. -/
theorem readGuard_operation (op : Operation) : readGuard op.tokens = (none, op.tokens) := by
  cases op <;> rfl

theorem readGuard_guard (g : Guard) (ts : List Token) : readGuard (g.tokens ++ ts) = (some g, ts) := by
  cases g <;> rfl

theorem readGuard_line (l : Line) : readGuard l.tokens = (l.guard, l.op.tokens) := by
  obtain ⟨_ | g, op⟩ := l
  · exact readGuard_operation op
  · exact readGuard_guard g op.tokens

theorem readOperation_tokens (op : Operation) : readOperation op.tokens = some op := by
  cases op <;> rfl

theorem instr_line (i : Instr) : i.line.instr = some i := by
  cases i <;> rfl

/-- Every instruction reads back from the tokens of its line: the statement of `Laws/PerInstr.lean` for all of them. -/
theorem lineRoundTrip (i : Instr) : Laws.LineRoundTrip.Statement i := by
  simp only [Laws.LineRoundTrip.Statement, readLine, readGuard_line, readOperation_tokens, Option.bind_some]
  exact instr_line i

/-! ### The statements about texts -/

/-- Settles O30: the spelling of a line reads back to its tokens, and these to the instruction. -/
theorem decodeReadsWhatEncodeWrites : Obligations.DecodeReadsWhatEncodeWrites := by
  intro i hwf
  obtain ⟨-, hlabel⟩ := Bool.and_eq_true_iff.1 hwf
  exact decode_spell (instr_tokens_ok hlabel) (lineRoundTrip i)

/-- The three spellings of a jump are one operation (R57). -/
theorem readOperation_hinted {k : Kw} (hk : k ∈ [Kw.jump, Kw.jumpT, Kw.jumpNT]) (l : Label) :
    readOperation [.kw k, .label l] = some (.jump l) := by
  simp only [List.mem_cons, List.not_mem_nil, or_false] at hk
  obtain rfl | rfl | rfl := hk <;> rfl

/-- A guarded jump in any of the three spellings decodes to the jump with that guard. -/
theorem decode_hinted {k : Kw} (hk : k ∈ [Kw.jump, Kw.jumpT, Kw.jumpNT]) {l : Label} (hl : isLabel l = true)
    (g : Guard) {i : Instr} (hi : Line.instr ⟨some g, .jump l⟩ = some i) :
    decode (spell (g.tokens ++ [.kw k, .label l])) = .ok i := by
  refine decode_spell ?_ ?_
  · simp [List.all_append, guard_tokens_ok, Token.ok, hl]
  · simp only [readLine, readGuard_guard, readOperation_hinted hk, Option.bind_some, hi]

/-- Settles O31. -/
theorem hintsDoNotMatter : Obligations.HintsDoNotMatter :=
  fun u _ hl _ hk => ⟨decode_hinted hk hl (.ifTnew u) rfl, decode_hinted hk hl (.ifFnew u) rfl⟩

/-- Settles O29: the tokens of each line, and that they spell the instruction. -/
theorem decodingSamplesAreRight : Obligations.DecodingSamplesAreRight :=
  ⟨decode_of_tokens (ts := [.pred 0, .eq, .kw .cmpEq, .lpar, .reg 2, .comma, .imm (-4), .rpar])
      (by decide +kernel) rfl,
    decode_of_tokens (ts := [.pred 1, .eq, .kw .andWord, .lpar, .pred 0, .comma, .kw .orWord, .lpar, .pred 2, .comma,
      .bang, .pred 3, .rpar, .rpar]) (by decide +kernel) rfl,
    decode_of_tokens (ts := [.kw .ifWord, .lpar, .bang, .pred 2, .rpar, .reg 31, .eq, .kw .memw, .lpar, .reg 29, .rpar])
      (by decide +kernel) rfl,
    decode_of_tokens (ts := [.kw .ifWord, .lpar, .newPred 0, .rpar, .kw .jumpT, .label (ascii "taken_path")])
      (by decide +kernel) rfl,
    decode_of_tokens (ts := [.kw .memd, .lpar, .reg 9, .rpar, .eq, .pair 1]) (by decide +kernel) rfl,
    decode_error_of_tokens (ts := [.pair 0, .eq, .ctl]) (by decide +kernel) rfl⟩

/-! ### Refusals by the static checks (R324) -/

/-- Where a packet of 1 to `MAXPKT` lines decodes, a refusal by its static checks is the step's. -/
theorem step_refused_of_refusal {s : State} {p : PacketText} {is : List Instr} {r : Refusal}
    (hhalt : s.launch.haltPc ≠ some s.pc) (hp : s.launch.packetAt s.pc = some p)
    (hsize : sizeOk p.lines.length = true) (hlines : readLines p.lines = some is)
    (hr : s.launch.refusal is = some r) : step s = .refused r := by
  have herror : s.launch.admitted p = .error r := by
    simp only [Launch.admitted, hsize, if_true, hlines, hr]
  simp only [step, packetStep, if_neg hhalt, hp, herror]

/-- An immediate out of its range is the first reason to refuse a packet (R53; entry 15). -/
theorem refusal_of_immediate {l : Launch} {is : List Instr} {i : Instr} (hi : i ∈ is) (h : i.immediateOk = false) :
    l.refusal is = some .immediateOutOfRange := by
  have hany : (is.any fun j => !j.immediateOk) = true := List.any_eq_true.2 ⟨i, hi, by rw [h]; rfl⟩
  simp only [Launch.refusal, Launch.checks, List.find?_cons, hany, Option.map_some]

/-- A label that the program does not define is the second one (R210; entry 15). -/
theorem refusal_of_label {l : Launch} {is : List Instr} {i : Instr} {name : Label}
    (hok : ∀ j ∈ is, j.immediateOk = true) (hi : i ∈ is) (hlabel : i.op.label = some name)
    (hname : l.labelAddr name = none) : l.refusal is = some .unknownLabel := by
  have himm : (is.any fun j => !j.immediateOk) = false :=
    List.any_eq_false.2 fun j hj => by simp only [hok j hj, Bool.not_true, Bool.false_eq_true, not_false_iff]
  have hlacks : l.lacksLabel i = true := by simp only [Launch.lacksLabel, hlabel, hname, Option.isNone_none]
  have hany : is.any l.lacksLabel = true := List.any_eq_true.2 ⟨i, hi, hlacks⟩
  simp only [Launch.refusal, Launch.checks, List.find?_cons, himm, hany, Option.map_some]

/-- An instruction whose switch is off has its packet refused, for this reason or an earlier one (D13, D30). -/
theorem refusal_of_switch {l : Launch} {is : List Instr} {i : Instr} {w : Switch} (hi : i ∈ is)
    (hw : i.role.switch = some w) (hoff : l.switchOn w = false) : ∃ r, l.refusal is = some r := by
  have hlacks : l.lacksSwitch i = true := by simp only [Launch.lacksSwitch, hw, hoff, Bool.not_false]
  have hcheck : (is.any l.lacksSwitch, Refusal.illFormedPacket .switchedOff) ∈ l.checks is := by simp [Launch.checks]
  exact Option.ne_none_iff_exists'.1 (refusal_of_check hcheck (List.any_eq_true.2 ⟨i, hi, hlacks⟩))

/-! ### Ranges and switches, form by form (R53, R324) -/

/-- The check of an immediate passes exactly between the ends of the range of its kind. -/
theorem immediateOk_iff {i : Instr} {n least greatest : Int} {k : ImmKind}
    (himm : i.op.immediate i.guard.isSome = some (n, k)) (hleast : k.least = least) (hgreatest : k.greatest = greatest) :
    i.immediateOk = true ↔ least ≤ n ∧ n ≤ greatest := by
  simp only [Instr.immediateOk, himm, ImmKind.holds, hleast, hgreatest, Bool.and_eq_true, decide_eq_true_eq]

/-- Settles O55. The rows of the ranges differ only in the operation's immediate kind; the sixteen operations all have the
switch `AdmitGK`. -/
theorem staticFormRefusals : Obligations.StaticFormRefusals := by
  intro s p is i hhalt hp hmin hmax hlines hi
  have hsize : sizeOk p.lines.length = true := by
    simp only [sizeOk, Config.maxPacket, hmin, hmax, decide_true, Bool.and_self]
  have hrefused {r : Refusal} (hr : s.launch.refusal is = some r) : step s = .refused r :=
    step_refused_of_refusal hhalt hp hsize hlines hr
  have himm (h : i.immediateOk = false) : step s = .refused .immediateOutOfRange :=
    hrefused (refusal_of_immediate hi h)
  have hswitch (w : Switch) (hw : i.role.switch = some w) (hoff : s.launch.switchOn w = false) :
      ∃ r, step s = .refused r :=
    (refusal_of_switch hi hw hoff).imp fun _ hr => hrefused hr
  refine ⟨himm, fun l hok hlabel hname => hrefused (refusal_of_label hok hi hlabel hname), hswitch, ?ranges,
    ?switches⟩
  case ranges =>
    intro pd pu rd rs rss n least greatest hrow
    have hrange : i.immediateOk = true ↔ least ≤ n ∧ n ≤ greatest := by
      simp only [List.mem_cons, Prod.mk.injEq, List.not_mem_nil, or_false] at hrow
      casesm* _ ∨ _ <;> obtain ⟨rfl, rfl, rfl⟩ := ‹_ ∧ _› <;> exact immediateOk_iff rfl rfl rfl
    refine ⟨fun hout => himm ?_, hrange.2⟩
    rw [Bool.eq_false_iff, Ne, hrange]
    omega
  case switches =>
    rintro pd rd rs rt rss rtt l (⟨hoff, rfl⟩ | ⟨hoff, hop⟩)
    · exact hswitch .tlbmatch rfl hoff
    · have hgk : i.role.switch ∈ List.replicate 16 (some Switch.gk) :=
        List.mem_map_of_mem (f := (·.role.switch)) hop
      exact hswitch .gk (List.eq_of_mem_replicate hgk) hoff

/-! ### The assembler's mappings (R59) -/

/-- At least `n` is more than `n - 1`. -/
theorem geSignedImm_eq_gtSignedImm_sub_one {w : Nat} (a : BitVec w) (n : Int) :
    geSignedImm a n = gtSignedImm a (n - 1) :=
  decide_eq_decide.2 Int.sub_one_lt_iff.symm

theorem geUnsignedImm_eq_gtUnsignedImm_sub_one {w : Nat} (a : BitVec w) (n : Int) :
    geUnsignedImm a n = gtUnsignedImm a (n - 1) :=
  decide_eq_decide.2 Int.sub_one_lt_iff.symm

/-- Every unsigned value is at least 0. -/
theorem geUnsignedImm_zero {w : Nat} (a : BitVec w) : geUnsignedImm a 0 = true :=
  decide_eq_true (Int.natCast_nonneg _)

/-- Settles O57: lt and ltu are the swapped compares by definition. -/
theorem assemblerMappingsKeepTheMeaning : Obligations.AssemblerMappingsKeepTheMeaning := by
  intro pd ps rs rt k s
  refine ⟨rfl, rfl, fun _ => ?ge, fun _ => ?geu, ?geuZero, ?transfer⟩
  case ge => simp only [exec, execCmpGeRi, execCmpGtRi, geSignedImm_eq_gtSignedImm_sub_one]
  case geu => simp only [exec, execCmpGeuRi, execCmpGtuRi, geUnsignedImm_eq_gtUnsignedImm_sub_one]
  case geuZero => simp only [exec, execCmpGeuRi, execCmpEqRr, geUnsignedImm_zero, decide_true]
  case transfer => simp only [exec, execTfrPp, execOrPp, BitVec.or_self]

end Sys2Proof.Machine
end

section
/-!
PROOFS, the statements of `spec/40_scalar_compare.md`: the integer and floating-point compares, the classifies, the bit
tests, the bounds check and the TLB match. Each instruction records the truth value of one Boolean condition, or of its
negation; the lemmas say what each condition decides, and each statement is `generates_truth` at these lemmas.
-/

namespace Sys2Proof.Machine

/-! ### Truth values (R14, R100) -/

/-- An instruction whose only record is the truth value of the negation of `b`. -/
theorem generates_truth_not {i : Instr} {s : State} {pd : PReg} {b : Bool} {q p : Prop}
    (h : exec i s = .next (s.recordPred pd (truth !b))) (hb : b = true ↔ q) (hq : ¬q ↔ p) : Generates i s pd p := by
  refine generates_truth h ?_
  rw [Bool.not_eq_true', ← Bool.not_eq_true, hb, hq]

theorem truth_decide (p : Prop) [Decidable p] : truth (decide p) = if p then 0xFF#8 else 0x00#8 := by
  simp only [truth, decide_eq_true_eq]

/-! ### Integer relations -/

section
variable {w : Nat}

theorem gtSigned_iff (a b : BitVec w) : gtSigned a b = true ↔ b.toInt < a.toInt := decide_eq_true_iff

theorem gtUnsigned_iff (a b : BitVec w) : gtUnsigned a b = true ↔ b.toNat < a.toNat := decide_eq_true_iff

theorem ltSigned_iff (a b : BitVec w) : ltSigned a b = true ↔ a.toInt < b.toInt := decide_eq_true_iff

theorem ltUnsigned_iff (a b : BitVec w) : ltUnsigned a b = true ↔ a.toNat < b.toNat := decide_eq_true_iff

theorem gtSignedImm_iff (a : BitVec w) (n : Int) : gtSignedImm a n = true ↔ n < a.toInt := decide_eq_true_iff

theorem gtUnsignedImm_iff (a : BitVec w) (n : Int) : gtUnsignedImm a n = true ↔ n < (a.toNat : Int) :=
  decide_eq_true_iff

theorem geSignedImm_iff (a : BitVec w) (n : Int) : geSignedImm a n = true ↔ n ≤ a.toInt := decide_eq_true_iff

theorem geUnsignedImm_iff (a : BitVec w) (n : Int) : geUnsignedImm a n = true ↔ n ≤ (a.toNat : Int) :=
  decide_eq_true_iff

theorem eqUnsignedImm_iff (a : BitVec w) (n : Int) : eqUnsignedImm a n = true ↔ (a.toNat : Int) = n :=
  decide_eq_true_iff

end

/-! ### Parts of a register and pairs (R11) -/

theorem lowByte_eq_iff (x y : Word) : lowByte x = lowByte y ↔ x.toNat % 2 ^ 8 = y.toNat % 2 ^ 8 := by
  rw [← BitVec.toNat_inj, lowByte_toNat, lowByte_toNat]

theorem lowHalf_eq_iff (x y : Word) : lowHalf x = lowHalf y ↔ x.toNat % 2 ^ 16 = y.toNat % 2 ^ 16 := by
  rw [← BitVec.toNat_inj, lowHalf_toNat, lowHalf_toNat]

/-- The counterpart of `eq_immWord_iff` for the halfword compare. -/
theorem eq_immHalf_iff (x : Half) (n : Int) (h : -2 ^ 15 ≤ n ∧ n < 2 ^ 15) : x = immHalf n ↔ x.toInt = n := by
  constructor
  · rintro rfl
    exact BitVec.toInt_ofInt_eq_self (by decide) h.1 h.2
  · rintro rfl
    exact (BitVec.ofInt_toInt).symm

/-- Pairs are equal exactly if both their registers are. -/
theorem pair_eq_iff (s : State) (k l : PairReg) :
    s.pair k = s.pair l ↔ s.reg (oddReg k) = s.reg (oddReg l) ∧ s.reg (evenReg k) = s.reg (evenReg l) := by
  constructor
  · intro h
    rw [← wordLane_pair_high, ← wordLane_pair_low, h, wordLane_pair_high, wordLane_pair_low]
    exact ⟨rfl, rfl⟩
  · rintro ⟨hodd, heven⟩
    rw [State.pair, hodd, heven, State.pair]

/-! ### The integer compares -/

/-- Settles O1. -/
theorem wordComparesGenerateTruthValues : Obligations.WordComparesGenerateTruthValues := fun _ _ _ _ =>
  ⟨generates_truth rfl decide_eq_true_iff,
    generates_truth_not rfl decide_eq_true_iff Iff.rfl,
    generates_truth rfl (gtSigned_iff ..),
    generates_truth_not rfl (gtSigned_iff ..) Int.not_lt,
    generates_truth rfl (gtUnsigned_iff ..),
    generates_truth_not rfl (gtUnsigned_iff ..) Nat.not_lt,
    generates_truth rfl (ltSigned_iff ..),
    generates_truth rfl (ltUnsigned_iff ..)⟩

/-- Settles O2. Only the equality with an extended immediate depends on the range. -/
theorem wordImmediateComparesGenerateTruthValues : Obligations.WordImmediateComparesGenerateTruthValues := by
  intro pd rs n s
  refine ⟨fun hn => ?signed, fun _ => ?unsigned, fun _ => generates_truth rfl (geSignedImm_iff ..),
    fun _ => generates_truth rfl (geUnsignedImm_iff ..)⟩
  case signed =>
    have heq : decide (s.reg rs = immWord n) = true ↔ (s.reg rs).toInt = n :=
      decide_eq_true_iff.trans (eq_immWord_iff _ n (by omega))
    exact ⟨generates_truth rfl heq, generates_truth_not rfl heq Iff.rfl, generates_truth rfl (gtSignedImm_iff ..),
      generates_truth_not rfl (gtSignedImm_iff ..) Int.not_lt⟩
  case unsigned =>
    exact ⟨generates_truth rfl (gtUnsignedImm_iff ..), generates_truth_not rfl (gtUnsignedImm_iff ..) Int.not_lt⟩

/-- Settles O3. The conditions speak of `lowByte` and `lowHalf`, the statement of remainders and truncations. -/
theorem narrowComparesGenerateTruthValues : Obligations.NarrowComparesGenerateTruthValues := by
  intro pd rs rt n s
  simp only [← lowByte_toNat, ← lowHalf_toNat, ← lowByte_eq_setWidth, ← lowHalf_eq_setWidth, BitVec.toNat_inj]
  exact ⟨generates_truth rfl decide_eq_true_iff,
    generates_truth rfl decide_eq_true_iff,
    generates_truth rfl (gtSigned_iff ..),
    generates_truth rfl (gtSigned_iff ..),
    generates_truth rfl (gtUnsigned_iff ..),
    generates_truth rfl (gtUnsigned_iff ..),
    fun _ => generates_truth rfl (eqUnsignedImm_iff ..),
    fun hn => ⟨generates_truth rfl (decide_eq_true_iff.trans (eq_immHalf_iff _ n (by omega))),
      generates_truth rfl (gtSignedImm_iff ..), generates_truth rfl (gtSignedImm_iff ..)⟩,
    fun _ => ⟨generates_truth rfl (gtUnsignedImm_iff ..), generates_truth rfl (gtUnsignedImm_iff ..)⟩⟩

/-- Settles O4. -/
theorem doublewordComparesGenerateTruthValues : Obligations.DoublewordComparesGenerateTruthValues := by
  intro pd rss rtt s
  simp only [← pair_toInt, ← pair_toNat, ← pair_eq_iff]
  exact ⟨generates_truth rfl decide_eq_true_iff, generates_truth rfl (gtSigned_iff ..),
    generates_truth rfl (gtUnsigned_iff ..)⟩

/-- Settles O11. -/
theorem compareToRegisterAndMuxResults : Obligations.CompareToRegisterAndMuxResults := by
  intro rd rs rt ps s
  have hcmp : exec (.cmpEqToR rd rs rt) s = .next (s.recordReg rd (if s.reg rs = s.reg rt then 1#32 else 0#32)) := rfl
  have hmux : exec (.muxRr rd ps rs rt) s =
      .next (s.recordReg rd (if (s.pred ps).getLsbD 0 then s.reg rs else s.reg rt)) := rfl
  refine ⟨fun h => ?_, fun h => ?_, fun h => ?_, fun h => ?_⟩
  · rw [hcmp, if_pos h]
  · rw [hcmp, if_neg h]
  · rw [hmux, if_pos h]
  · rw [hmux, h]; rfl

/-! ### Floating-point relations (R157; D14) -/

section
variable {w : Nat} (f : FpFormat) (a c : BitVec w)

theorem FpFormat.ordered_iff : f.ordered a c = true ↔ ¬f.isNaN a = true ∧ ¬f.isNaN c = true := by
  simp only [FpFormat.ordered, Bool.and_eq_true, Bool.not_eq_true', Bool.not_eq_true]

theorem FpFormat.eq_iff : f.eq a c = true ↔ ¬f.isNaN a = true ∧ ¬f.isNaN c = true ∧ f.key a = f.key c := by
  simp only [FpFormat.eq, Bool.and_eq_true, FpFormat.ordered_iff, decide_eq_true_eq, and_assoc]

theorem FpFormat.gt_iff : f.gt a c = true ↔ ¬f.isNaN a = true ∧ ¬f.isNaN c = true ∧ f.key c < f.key a := by
  simp only [FpFormat.gt, Bool.and_eq_true, FpFormat.ordered_iff, decide_eq_true_eq, and_assoc, gt_iff_lt]

theorem FpFormat.ge_iff : f.ge a c = true ↔ ¬f.isNaN a = true ∧ ¬f.isNaN c = true ∧ f.key c ≤ f.key a := by
  simp only [FpFormat.ge, Bool.and_eq_true, FpFormat.ordered_iff, decide_eq_true_eq, and_assoc, ge_iff_le]

theorem FpFormat.uo_iff : f.uo a c = true ↔ f.isNaN a = true ∨ f.isNaN c = true := Bool.or_eq_true_iff

theorem FpFormat.ordered_comm : f.ordered a c = f.ordered c a := Bool.and_comm ..

theorem FpFormat.uo_eq_not_ordered : f.uo a c = !f.ordered a c := by
  rw [FpFormat.uo, FpFormat.ordered, Bool.not_and, Bool.not_not, Bool.not_not]

/-- Exactly one of greater, less, equal and unordered holds: either an operand is a NaN, or the keys are compared. -/
theorem FpFormat.exactly_one_relation :
    ∃ k : Fin 4, ∀ n : Fin 4, [f.gt a c, f.gt c a, f.eq a c, f.uo a c].get n = decide (n = k) := by
  rw [FpFormat.gt, FpFormat.gt, FpFormat.eq, f.ordered_comm c a, f.uo_eq_not_ordered]
  cases f.ordered a c with
  | false => rw [Bool.false_and, Bool.false_and, Bool.false_and]; exact ⟨3, by decide⟩
  | true =>
    rcases lt_trichotomy (f.key c) (f.key a) with h | h | h
    · rw [decide_eq_true h, decide_eq_false h.not_gt, decide_eq_false h.ne']; exact ⟨0, by decide⟩
    · rw [decide_eq_false h.not_gt, decide_eq_false h.not_lt, decide_eq_true h.symm]; exact ⟨2, by decide⟩
    · rw [decide_eq_false h.not_gt, decide_eq_true h, decide_eq_false h.ne]; exact ⟨1, by decide⟩

end

/-- Settles O5. -/
theorem floatComparesGenerateTruthValues : Obligations.FloatComparesGenerateTruthValues := by
  intro pd rs rt rss rtt s
  simp only [← isNaN_single, ← isNaN_double, ← key_single, ← key_double]
  exact ⟨generates_truth rfl (single.eq_iff ..), generates_truth rfl (single.gt_iff ..),
    generates_truth rfl (single.ge_iff ..), generates_truth rfl (single.uo_iff ..),
    generates_truth rfl (double.eq_iff ..), generates_truth rfl (double.gt_iff ..),
    generates_truth rfl (double.ge_iff ..), generates_truth rfl (double.uo_iff ..)⟩

/-- Settles O58: each of the four instructions records the truth value of its relation. -/
theorem floatTrichotomy : Obligations.FloatTrichotomy := by
  intro pd rs rt rss rtt s
  exact ⟨(single.exactly_one_relation (s.reg rs) (s.reg rt)).imp fun k hk n => by
      rw [← truth_decide, ← hk]; fin_cases n <;> rfl,
    (double.exactly_one_relation (s.pair rss) (s.pair rtt)).imp fun k hk n => by
      rw [← truth_decide, ← hk]; fin_cases n <;> rfl⟩

/-! ### Classes (R140, R141) -/

/-- The bits of a natural number are those of the operand that an instruction makes of it. -/
theorem ofInt_getLsbD {w : Nat} {n : Int} (hn : 0 ≤ n) {k : Nat} (hk : k < w) :
    (BitVec.ofInt w n).getLsbD k = n.toNat.testBit k := by
  obtain ⟨m, rfl⟩ := Int.eq_ofNat_of_zero_le hn
  rw [BitVec.ofInt_natCast, BitVec.getLsbD_ofNat, decide_eq_true hk, Bool.true_and, Int.toNat_natCast]

theorem State.inClasses_eq_testBit {w : Nat} (s : State) (f : FpFormat) (x : BitVec w) {n : Int} (hn : 0 ≤ n) :
    s.inClasses f x n = n.toNat.testBit (s.launch.classBits.bit (f.classOf x)).val :=
  ofInt_getLsbD hn (Fin.isLt _)

/-- A format with an exponent tells a NaN by its class. -/
theorem FpFormat.classOf_eq_nan_iff {w : Nat} (f : FpFormat) (hf : f.emax ≠ 0) (x : BitVec w) :
    f.classOf x = .nan ↔ f.isNaN x = true := by
  rw [FpFormat.classOf, FpFormat.isNaN, Bool.and_eq_true, decide_eq_true_eq, decide_eq_true_eq]
  split_ifs with h0 hfrac hmax hfrac
  · simp [hfrac]
  · simp [h0, hf.symm]
  · simp [hfrac]
  · simp [hmax, hfrac]
  · simp [hmax]

theorem sfclass_generates (pd : PReg) (rs : GReg) {n : Int} (hn : 0 ≤ n) (s : State) :
    Generates (.sfclass pd rs n) s pd
      (n.toNat.testBit (s.launch.classBits.bit (single.classOf (s.reg rs))).val = true) :=
  generates_truth rfl (by rw [State.inClasses_eq_testBit s single _ hn])

theorem dfclass_generates (pd : PReg) (rss : PairReg) {n : Int} (hn : 0 ≤ n) (s : State) :
    Generates (.dfclass pd rss n) s pd
      (n.toNat.testBit (s.launch.classBits.bit (double.classOf (s.pair rss))).val = true) :=
  generates_truth rfl (by rw [State.inClasses_eq_testBit s double _ hn])

theorem allClasses_testBit : ∀ k : Fin 5, (31 : Int).toNat.testBit k.val = true := by decide

theorem noClass_testBit : ∀ k : Fin 5, ¬(0 : Int).toNat.testBit k.val = true := by decide

/-- Settles O6. -/
theorem classifyTestsTheClassBit : Obligations.ClassifyTestsTheClassBit := by
  intro pd rs rss n s hn
  exact ⟨sfclass_generates pd rs hn.1 s, dfclass_generates pd rss hn.1 s,
    (single.classOf_eq_nan_iff (by decide) _).trans (isNaN_single _),
    (double.classOf_eq_nan_iff (by decide) _).trans (isNaN_double _),
    (sfclass_generates pd rs (by decide) s).1 (allClasses_testBit _),
    (sfclass_generates pd rs (by decide) s).2 (noClass_testBit _),
    (dfclass_generates pd rss (by decide) s).1 (allClasses_testBit _),
    (dfclass_generates pd rss (by decide) s).2 (noClass_testBit _)⟩

/-- Settles O59, with the inverse of `ClassBit`. -/
theorem oneClassImmediatesTestThatClass : Obligations.OneClassImmediatesTestThatClass := by
  intro s
  obtain ⟨cls, hcls, hbit⟩ : ∃ cls, Function.LeftInverse cls s.launch.classBits.bit ∧
      Function.RightInverse cls s.launch.classBits.bit :=
    Function.bijective_iff_has_inverse.1
      ⟨fun _ _ => s.launch.classBits.bit_injective, s.launch.classBits.bit_surjective⟩
  have htest (k : Fin 5) (c : FpClass) :
      ((2 ^ k.val : Nat) : Int).toNat.testBit (s.launch.classBits.bit c).val = true ↔ c = cls k := by
    rw [Int.toNat_natCast, Nat.testBit_two_pow, decide_eq_true_iff, Fin.val_inj]
    exact ⟨fun h => by rw [h, hcls], fun h => by rw [h, hbit]⟩
  refine ⟨cls, hbit, hcls, fun pd rs rss k => ⟨?_, ?_⟩⟩
  · rw [← htest]; exact sfclass_generates pd rs (Int.natCast_nonneg _) s
  · rw [← htest]; exact dfclass_generates pd rss (Int.natCast_nonneg _) s

/-! ### Bit tests (R142 to R151) -/

theorem immWord_getLsbD {n : Int} (hn : 0 ≤ n) {k : Nat} (hk : k < 32) :
    (immWord n).getLsbD k = n.toNat.testBit k := ofInt_getLsbD hn hk

/-- What the negated forms say: not all bits in the mask are `!v` exactly if some bit in the mask is `v`. -/
theorem not_forall_mask_iff (m q : Nat → Bool) (v : Bool) :
    (¬∀ k < 32, m k = true → q k = !v) ↔ ∃ k < 32, m k = true ∧ q k = v := by
  simp only [not_forall, exists_prop, Bool.not_eq_not]

/-- Settles O7. -/
theorem bitTestsGenerateTruthValues : Obligations.BitTestsGenerateTruthValues := by
  intro pd rs rt n s
  refine ⟨fun _ => ⟨generates_truth rfl Iff.rfl, generates_truth_not rfl Iff.rfl (Iff.of_eq (Bool.not_eq_true _))⟩,
    generates_truth rfl (bitsClear_iff ..),
    generates_truth_not rfl (bitsClear_iff ..) (not_forall_mask_iff _ _ true), fun hn => ?immediate,
    generates_truth rfl (bitsSet_iff ..),
    generates_truth_not rfl (bitsSet_iff ..) (not_forall_mask_iff _ _ false)⟩
  case immediate =>
    have hmask : bitsClear (s.reg rs) (immWord n) = true ↔
        ∀ k < 32, n.toNat.testBit k = true → (s.reg rs).getLsbD k = false := by
      rw [bitsClear_iff]
      exact forall₂_congr fun k hk => by rw [immWord_getLsbD hn.1 hk]
    exact ⟨generates_truth rfl hmask, generates_truth_not rfl hmask (not_forall_mask_iff _ _ true)⟩

section
variable {s : State} {x t : Word}

theorem State.testBit_of_le (h : t.toNat ≤ 31) : s.testBit x t = x.getLsbD t.toNat := if_pos h

theorem State.testBit_wide_default (h : 31 < t.toNat) (hd : s.launch.tstbitWide = .default) :
    s.testBit x t = tstbitWideDefault x t := by
  simp only [State.testBit, if_neg (Nat.not_le.2 h), hd]

theorem State.testBit_wide_other (h : 31 < t.toNat) (ho : s.launch.tstbitWide = .other) :
    s.testBit x t = Config.tstbitWideOther x t := by
  simp only [State.testBit, if_neg (Nat.not_le.2 h), ho]

theorem tstbitWideDefault_iff : tstbitWideDefault x t = true ↔
    0 ≤ (t.extractLsb' 0 7).toInt ∧ (t.extractLsb' 0 7).toInt ≤ 31 ∧
      x.getLsbD (t.extractLsb' 0 7).toInt.toNat = true := by
  simp only [tstbitWideDefault, Bool.and_eq_true, decide_eq_true_eq, and_assoc]

theorem State.inBounds_default {r : DWord} (h : s.launch.bounds = .default) : s.inBounds x r = boundsDefault x r := by
  simp only [State.inBounds, h]

theorem State.inBounds_other {r : DWord} (h : s.launch.bounds = .other) :
    s.inBounds x r = Config.boundsCheckOther x r := by
  simp only [State.inBounds, h]

end

theorem tstbitRr_generates (pd : PReg) (rs rt : GReg) (s : State) :
    Generates (.tstbitRr pd rs rt) s pd (s.testBit (s.reg rs) (s.reg rt) = true) :=
  generates_truth rfl Iff.rfl

theorem ntstbitRr_generates (pd : PReg) (rs rt : GReg) (s : State) :
    Generates (.ntstbitRr pd rs rt) s pd (s.testBit (s.reg rs) (s.reg rt) = false) :=
  generates_truth_not rfl Iff.rfl (Iff.of_eq (Bool.not_eq_true _))

/-- Settles O8. -/
theorem registerBitTestCompletes : Obligations.RegisterBitTestCompletes := by
  intro pd rs rt s
  have htst := tstbitRr_generates pd rs rt s
  have hntst := ntstbitRr_generates pd rs rt s
  refine ⟨fun h => ?narrow, fun h => ⟨_, htst, hntst, fun hd => ?default, fun ho => ?other⟩⟩
  case narrow => rw [State.testBit_of_le h] at htst hntst; exact ⟨htst, hntst⟩
  case default => rw [State.testBit_wide_default h hd, tstbitWideDefault_iff]
  case other => exact State.testBit_wide_other h ho

/-! ### The bounds check and the TLB match (R154, R155) -/

theorem boundsDefault_pair_iff (x : Word) (s : State) (k : PairReg) : boundsDefault x (s.pair k) = true ↔
    (s.reg (evenReg k)).toNat ≤ x.toNat ∧ x.toNat < (s.reg (oddReg k)).toNat := by
  simp only [boundsDefault, wordLane_pair_low, wordLane_pair_high, Bool.and_eq_true, decide_eq_true_eq]

/-- Settles O9. -/
theorem rangeAndTlbMatchComplete : Obligations.RangeAndTlbMatchComplete := by
  intro pd rs rt rss rtt s
  refine ⟨fun hd => generates_truth rfl ?default, fun ho => generates_truth rfl ?other, generates_truth rfl Iff.rfl⟩
  case default => rw [State.inBounds_default hd, boundsDefault_pair_iff]
  case other => rw [State.inBounds_other ho]

end Sys2Proof.Machine
end

section
/-!
PROOFS, the statements of `spec/41_conditional_instructions.md`: what a guard decides, what each conditional operation
completes with, and the packet of one store. A guarded form is its operation under the guard (`exec_line_guarded`), so
what it does follows from what the operation does (`guardedTo_of_next`); the lemmas between say what the operations
compute in the terms of the statements.
-/

namespace Sys2Proof.Machine

/-! ### Guards (R200 to R203) -/

/-- The instruction that a guard and an operation make is the operation under that guard, for each of the operations of
R203; with any other operation a guard makes no instruction. -/
theorem exec_line_guarded {g : Guard} {op : Operation} {i j : Instr} (hi : Line.instr ⟨some g, op⟩ = some i)
    (hj : Line.instr ⟨none, op⟩ = some j) (s : State) : exec i s = guarded g (exec j) s := by
  cases op with
  | jump | call | jumpr | callr | memwLd | memdLd | membLd | memubLd | memhLd | memuhLd | memwSt | memdSt | membSt
  | memhSt | addRr | addRi | subRr | andRr | orRr | xorRr | aslh | asrh | sxtb | sxth | zxtb | zxth | tfr | combine
  | tfri | deallocReturn =>
    cases hj
    cases g <;> cases hi <;> rfl
  | _ => cases g <;> cases hi

/-- An instruction is the one that its guard and its operation make. -/
theorem instr_of_guard {i : Instr} {g : Option Guard} (h : i.guard = g) : Line.instr ⟨g, i.op⟩ = some i := by
  subst h
  exact instr_line i

/-- Settles O47. -/
theorem guardDecidesExecution : Obligations.GuardDecidesExecution := by
  intro i j g s hi hj hop
  have hexec : exec i s = guarded g (exec j) s := exec_line_guarded (instr_of_guard hi) (hop ▸ instr_of_guard hj) s
  rw [hexec]
  exact ⟨guarded_true _, guarded_false _, guarded_none _⟩

/-- Of two opposite guards one lets the operation execute and the other leaves everything as it is. -/
theorem guarded_opposite {op : State → Result} {s t : State} {g g' : Guard} {b : Bool} (hop : op s = .next t)
    (hg : s.guardValue g = some b) (hg' : s.guardValue g' = some !b) :
    (b = true → guarded g op s = .next t ∧ guarded g' op s = .next s) ∧
      (b = false → guarded g op s = .next s ∧ guarded g' op s = .next t) := by
  constructor
  · rintro rfl
    exact ⟨(guarded_true op hg).trans hop, guarded_false op hg'⟩
  · rintro rfl
    exact ⟨guarded_false op hg, (guarded_true op hg').trans hop⟩

/-- The four guarded forms of an operation that leads to `t`. -/
theorem guardedTo_of_next {op : State → Result} {s t : State} (pu : PReg) (h : op s = .next t) :
    GuardedTo s pu t (guarded (.ifT pu) op s) (guarded (.ifF pu) op s) (guarded (.ifTnew pu) op s)
      (guarded (.ifFnew pu) op s) := by
  obtain ⟨htrue, hfalse⟩ := guarded_opposite h (guardValue_ifT s pu) (guardValue_ifF s pu)
  refine ⟨htrue, hfalse, fun v hv => guarded_opposite (b := lsb v) h ?_ ?_⟩
  · rw [guardValue_ifTnew, hv, Option.map_some]
  · rw [guardValue_ifFnew, hv, Option.map_some]

theorem next_and_guardedTo {op : State → Result} {s t : State} (pu : PReg) (h : op s = .next t) :
    op s = .next t ∧ GuardedTo s pu t (guarded (.ifT pu) op s) (guarded (.ifF pu) op s)
      (guarded (.ifTnew pu) op s) (guarded (.ifFnew pu) op s) :=
  ⟨h, guardedTo_of_next pu h⟩

/-! ### Transfers of control (R210 to R212, R231) -/

/-- Settles O15. -/
theorem jumpsComplete : Obligations.JumpsComplete := fun pu rs lbl _ =>
  ⟨fun _ ha => next_and_guardedTo (op := execJump lbl) pu (withLabel_ok _ ha),
    next_and_guardedTo (op := execJumpr rs) pu rfl⟩

/-- Settles O16. -/
theorem callsComplete : Obligations.CallsComplete := fun pu rs lbl _ =>
  ⟨fun _ ha => next_and_guardedTo (op := execCall lbl) pu (withLabel_ok _ ha),
    next_and_guardedTo (op := execCallr rs) pu rfl⟩

/-- Settles O17. -/
theorem deallocReturnCompletes : Obligations.DeallocReturnCompletes := fun pu _ hok =>
  next_and_guardedTo (op := execDeallocReturn) pu (loading_ok _ hok)

/-! ### Loads (R213 to R215) -/

/-- Settles O18. -/
theorem wordAndDoublewordLoadsComplete : Obligations.WordAndDoublewordLoadsComplete := fun pu rd rs rdd _ =>
  ⟨fun hok => next_and_guardedTo (op := execMemwLd rd rs) pu (loading_ok _ hok),
    fun hok => next_and_guardedTo (op := execMemdLd rdd rs) pu (loading_ok _ hok)⟩

/-- Settles O19. A sign extension is the signed value in 32 bits by definition, a zero extension the unsigned one. -/
theorem byteAndHalfwordLoadsComplete : Obligations.ByteAndHalfwordLoadsComplete := by
  intro pu rd rs s
  rw [BitVec.ofNat_toNat, BitVec.ofNat_toNat]
  exact ⟨fun hok => next_and_guardedTo (op := execMembLd rd rs) pu (loading_ok _ hok),
    fun hok => next_and_guardedTo (op := execMemubLd rd rs) pu (loading_ok _ hok),
    fun hok => next_and_guardedTo (op := execMemhLd rd rs) pu (loading_ok _ hok),
    fun hok => next_and_guardedTo (op := execMemuhLd rd rs) pu (loading_ok _ hok)⟩

/-! ### Stores (R216 to R218, R32) -/

/-- Byte `i` of the low word of a doubleword is its byte `i`. -/
theorem lowWord_extract_byte (v : DWord) {i : Nat} (h : i < 4) :
    (v.extractLsb' 0 32).extractLsb' (8 * i) 8 = v.extractLsb' (8 * i) 8 := by
  apply BitVec.eq_of_getLsbD_eq
  intro k hk
  have hlow : 8 * i + k < 32 := by omega
  simp only [BitVec.getLsbD_extractLsb', hk, hlow, decide_true, Bool.true_and, Nat.zero_add]

/-- The bytes of a doubleword are those of its low word and then those of its high word. -/
theorem littleBytes_words (v : DWord) :
    littleBytes v 8 = littleBytes (wordLane v 0) 4 ++ littleBytes (wordLane v 1) 4 := by
  rw [littleBytes, show List.range 8 = List.range (4 + 4) from rfl, List.range_add, List.map_append, List.map_map]
  congr 1
  · exact List.map_congr_left fun i hi => (lowWord_extract_byte v (List.mem_range.1 hi)).symm
  · exact List.map_congr_left fun i hi => (highWord_extract_byte v (List.mem_range.1 hi)).symm

/-- The bytes of a pair are those of its even register and then those of its odd one (R11). -/
theorem littleBytes_pair (s : State) (k : PairReg) :
    littleBytes (s.pair k) 8 = littleBytes (s.reg (evenReg k)) 4 ++ littleBytes (s.reg (oddReg k)) 4 := by
  rw [littleBytes_words, wordLane_pair_low, wordLane_pair_high]

/-- Settles O20. The bytes that the statement lists are those of `littleBytes`. -/
theorem storesComplete : Obligations.StoresComplete := by
  intro pu rs rt rtt s
  have hmemd (hok : AccessOk s (s.reg rs) 8 .write) : execMemdSt rs rtt s =
      .next (s.recordStore (s.reg rs) (littleBytes (s.reg (evenReg rtt)) 4 ++ littleBytes (s.reg (oddReg rtt)) 4)) :=
    littleBytes_pair s rtt ▸ storing_ok (s.pair rtt) hok
  exact ⟨fun hok => next_and_guardedTo (op := execMemwSt rs rt) pu (storing_ok _ hok),
    fun hok => next_and_guardedTo pu (hmemd hok),
    fun hok => next_and_guardedTo (op := execMembSt rs rt) pu (storing_ok _ hok),
    fun hok => next_and_guardedTo (op := execMemhSt rs rt) pu (storing_ok _ hok)⟩

/-! ### Integer operations (R219 to R230) -/

/-- A word plus an immediate is the sum of their signed values, narrowed. -/
theorem ofInt_toInt_add_eq (x : Word) (n : Int) : BitVec.ofInt 32 (x.toInt + n) = x + immWord n := by
  rw [BitVec.ofInt_add, BitVec.ofInt_toInt, immWord]

/-- The difference of two words is that of their signed values, narrowed. -/
theorem ofInt_toInt_sub_eq (x y : Word) : BitVec.ofInt 32 (x.toInt - y.toInt) = x - y := by
  rw [Int.sub_eq_add_neg, BitVec.ofInt_add, BitVec.ofInt_neg, BitVec.ofInt_toInt, BitVec.ofInt_toInt,
    BitVec.sub_eq_add_neg]

/-- Settles O21. -/
theorem addAndSubtractComplete : Obligations.AddAndSubtractComplete := by
  intro pu rd rs rt n s
  rw [← BitVec.add_def, ofInt_toInt_add_eq, ofInt_toInt_sub_eq]
  exact ⟨rfl, guardedTo_of_next pu rfl, rfl, guardedTo_of_next pu rfl, rfl, guardedTo_of_next pu rfl⟩

/-- Settles O22: the model's operations are the bitwise ones of the statement. -/
theorem logicalRegistersComplete : Obligations.LogicalRegistersComplete := fun pu _ _ _ _ =>
  ⟨rfl, guardedTo_of_next pu rfl, rfl, guardedTo_of_next pu rfl, rfl, guardedTo_of_next pu rfl⟩

theorem lowHalf_append_zero (x : Word) : lowHalf x ++ 0#16 = x <<< 16 := by
  rw [BitVec.shiftLeft_eq_concat_of_lt (by decide), BitVec.cast_eq]
  rfl

/-- The sign-extended high half is the arithmetic shift: below bit 16 both have the bits of the high half, above it the
sign bit. -/
theorem highHalf_signExtend (x : Word) : (highHalf x).signExtend 32 = x.sshiftRight 16 := by
  have hmsb : (highHalf x).msb = x.msb := by simp [highHalf, BitVec.msb_eq_getLsbD_last]
  apply BitVec.eq_of_getLsbD_eq
  intro k hk
  rw [BitVec.getLsbD_signExtend, BitVec.getLsbD_sshiftRight, hmsb, highHalf, BitVec.getLsbD_extractLsb']
  by_cases hlow : k < 16
  · simp [hk, hlow, show 16 + k < 32 by omega]
  · simp [hk, hlow, show ¬16 + k < 32 by omega]

theorem lowByte_setWidth (x : Word) : (lowByte x).setWidth 32 = x &&& 0xFF#32 := by
  apply BitVec.eq_of_toNat_eq
  rw [BitVec.toNat_setWidth, lowByte_toNat, BitVec.toNat_and]
  exact (Nat.mod_eq_of_lt (by omega)).trans (Nat.and_two_pow_sub_one_eq_mod _ 8).symm

theorem lowHalf_setWidth (x : Word) : (lowHalf x).setWidth 32 = x &&& 0xFFFF#32 := by
  apply BitVec.eq_of_toNat_eq
  rw [BitVec.toNat_setWidth, lowHalf_toNat, BitVec.toNat_and]
  exact (Nat.mod_eq_of_lt (by omega)).trans (Nat.and_two_pow_sub_one_eq_mod _ 16).symm

/-- Settles O23. -/
theorem shiftsAndExtensionsComplete : Obligations.ShiftsAndExtensionsComplete := by
  intro pu rd rs s
  rw [← lowHalf_append_zero, ← highHalf_signExtend, ← lowByte_setWidth, ← lowHalf_setWidth, ← lowByte_eq_setWidth,
    ← lowHalf_eq_setWidth]
  exact ⟨rfl, guardedTo_of_next pu rfl, rfl, guardedTo_of_next pu rfl, rfl, guardedTo_of_next pu rfl,
    rfl, guardedTo_of_next pu rfl, rfl, guardedTo_of_next pu rfl, rfl, guardedTo_of_next pu rfl⟩

/-! ### Transfers and combine (R233 to R235) -/

/-- A pair written as two words: the low one to the even register, the high one to the odd register (R6). -/
theorem recordPair_append (s : State) (k : PairReg) (high low : Word) :
    s.recordPair k (high ++ low) = (s.recordReg (evenReg k) low).recordReg (oddReg k) high := by
  rw [State.recordPair, BitVec.extractLsb'_append_eq_left, BitVec.extractLsb'_append_eq_right]

/-- Settles O24. -/
theorem transfersAndCombineComplete : Obligations.TransfersAndCombineComplete := by
  intro pu rd rs rt rdd n s
  rw [← recordPair_append]
  exact ⟨rfl, guardedTo_of_next pu rfl, rfl, guardedTo_of_next pu rfl, rfl, guardedTo_of_next pu rfl⟩

/-! ### A packet of one store (R216, R304) -/

/-- A packet without a predicate result leaves the predicate registers (R303). -/
theorem commitPreds_generated_of_no_results {s : State} {is : List Instr}
    (h : predResults is (s.begin is.length) = []) : commitPreds s.preds (s.generated is).pkt.newP = s.preds := by
  ext1 d hd
  have hget := commitPreds_get s.preds (s.generated is).pkt.newP ⟨d, hd⟩
  rw [State.generated_newP, newValues_get, h] at hget
  exact hget

/-- A packet of one instruction that records one store and nothing else leads to the state after the packet with the
bytes of that store written. -/
theorem step_single_storing {s : State} {i : Instr} {a : Word} {bs : List Byte} (hat : AtPacket s [i])
    (hroom : RoomAfter s 1) (h : exec i (s.generated [i]) = .next ((s.generated [i]).recordStore a bs)) :
    step s = .next { s.after 1 with mem := s.mem.putBytes a.toNat bs } := by
  have hnext : ∀ k ∈ [i], ∃ u, exec k (s.generated [i]) = .next u := List.forall_mem_singleton.2 ⟨_, h⟩
  have hmerged : merged (outcomes [i] (s.generated [i])) = { Effects.none with stores := [⟨a, bs⟩] } := by
    simp only [outcomes, List.map_cons, List.map_nil, h]
    rfl
  have hresults : predResults [i] (s.begin [i].length) = [] := by
    rw [predResults_begin s [i] hnext, List.flatMap_singleton, h]
    rfl
  rw [step_atPacket hat, runPacket_finish hnext, hmerged]
  refine (finish_eq_commit rfl rfl (nextPc_of_room hroom rfl)).trans ?_
  rw [State.commit, commitPreds_generated_of_no_results hresults]
  rfl

/-- Settles O43. -/
theorem storeThenMemoryHoldsTheBytes : Obligations.StoreThenMemoryHoldsTheBytes := by
  intro s rs rt hat hok hroom
  have hfind := Memory.find_putBytes s.mem (s.reg rs).toNat (littleBytes (s.reg rt) 4)
  refine ⟨_, step_single_storing hat hroom (storing_ok _ hok), fun k hk => ?written, fun b hb => ?other, rfl, rfl, rfl,
    rfl⟩
  case written =>
    refine (hfind _).trans ?_
    rw [littleBytes_length, if_pos (by omega), Nat.add_sub_cancel_left]
    exact littleBytes_get _ 4 k hk
  case other => exact (hfind b).trans (if_neg hb)

end Sys2Proof.Machine
end

section
/-!
PROOFS, the statements of `spec/42_packet_predicate_rules.md` about one packet: which packets are refused, where the pc
goes, and what is committed to the predicate registers. What a packet commits to a predicate register is said once
(`step_next_pred`), as are its target (`merged_target_of_mem`) and which writes are to one register
(`duplicate_eq_none_iff`).
-/

namespace Sys2Proof.Machine

/-! ### Phase 0: which steps are refused (R300, R324, R704) -/

/-- At `HALT_PC` the run has ended (R704). -/
theorem step_of_halted {s : State} (hhalt : s.launch.haltPc = some s.pc) : step s = .refused .runEnded := by
  simp only [step, packetStep, if_pos hhalt]

/-- Off the program the step is refused (R300). -/
theorem step_of_noPacket {s : State} (hhalt : s.launch.haltPc ≠ some s.pc) (hnone : s.launch.packetAt s.pc = none) :
    step s = .refused .noPacketAtPc := by
  simp only [step, packetStep, if_neg hhalt, hnone]

/-- A packet that is not admitted is refused for the reason that its checks give. -/
theorem step_of_notAdmitted {s : State} {p : PacketText} {r : Refusal} (hhalt : s.launch.haltPc ≠ some s.pc)
    (hp : s.launch.packetAt s.pc = some p) (hr : s.launch.admitted p = .error r) : step s = .refused r := by
  simp only [step, packetStep, if_neg hhalt, hp, hr]

/-- Settles O56. -/
theorem runsEndOrStopOffTheProgram : Obligations.RunsEndOrStopOffTheProgram := fun _ =>
  ⟨step_of_halted, step_of_noPacket⟩

/-- A packet whose instructions fail a static check is refused, if not for that reason then for an earlier one. -/
theorem step_refused_of_check {s : State} {p : PacketText} {is : List Instr} {c : Bool × Refusal}
    (hp : s.launch.packetAt s.pc = some p) (hlines : readLines p.lines = some is) (hc : c ∈ s.launch.checks is)
    (hfails : c.1 = true) : ∃ r, step s = .refused r := by
  cases hadm : s.launch.admitted p with
  | ok js =>
    obtain ⟨-, hread, hok⟩ := admitted_iff.1 hadm
    cases hread.symm.trans hlines
    exact absurd hok (refusal_of_check hc hfails)
  | error r =>
    by_cases hhalt : s.launch.haltPc = some s.pc
    · exact ⟨.runEnded, step_of_halted hhalt⟩
    · exact ⟨r, step_of_notAdmitted hhalt hp hadm⟩

/-- Settles O51. -/
theorem newWithoutProducerIsRefused : Obligations.NewWithoutProducerIsRefused := by
  intro s p is i u hp hlines hi hnew hquad
  have hproduces : is.any (produces u) = false := by
    refine List.any_eq_false.2 fun j hj h => ?_
    simp only [produces, Bool.and_eq_true, List.contains_iff_mem, Bool.not_eq_true'] at h
    obtain ⟨hu, hnotQuad⟩ := h
    rw [hquad j hj hu] at hnotQuad
    cases hnotQuad
  have hlacks : lacksProducer is i = true := by simp only [lacksProducer, hnew, hproduces, Bool.not_false]
  exact step_refused_of_check (c := (is.any (lacksProducer is), .illFormedPacket .newWithoutProducer)) hp hlines
    (by simp [Launch.checks]) (List.any_eq_true.2 ⟨i, hi, hlacks⟩)

/-- Two writers of one predicate register of which one may not share it stand in conflict (R306). -/
theorem predConflict_of_mem {l : Launch} {i j : Instr} {d : PReg} (hi : d ∈ i.role.preds) (hj : d ∈ j.role.preds)
    (h : l.mayShare i.role.sharing = false ∨ l.mayShare j.role.sharing = false) : predConflict l i j = true := by
  have hshared : i.role.preds.any j.role.preds.contains = true :=
    List.any_eq_true.2 ⟨d, hi, List.contains_iff_mem.2 hj⟩
  rcases h with h | h <;> simp [predConflict, hshared, h]

/-- What can generate a predicate register has it among its destinations. -/
theorem mem_preds_of_canGenerate {i : Instr} {d : PReg} (h : CanGenerate i d) : d ∈ i.role.preds := by
  obtain ⟨u, t, v, hempty, hexec, hmem⟩ := h
  obtain ⟨ps, hps, hdest⟩ := (exec_allowed i u t hexec).preds
  rw [hps, hempty] at hmem
  exact hdest _ hmem

/-- An instruction of a list has the right to share that all instructions of the list have. -/
theorem sharing_of_mem {k : Instr} {l : List Instr} {c : Sharing}
    (hl : l.map (·.role.sharing) = List.replicate l.length c) (hk : k ∈ l) : k.role.sharing = c :=
  List.eq_of_mem_replicate (hl ▸ List.mem_map_of_mem hk)

/-- Settles O52. The forms that the statement names have one right to share in each of its three lists. -/
theorem restrictedSharingIsRefused : Obligations.RestrictedSharingIsRefused := by
  intro s p l₁ l₂ l₃ i j d hp hlines
  have hrefused (hi : d ∈ i.role.preds) (hj : d ∈ j.role.preds)
      (h : s.launch.mayShare i.role.sharing = false ∨ s.launch.mayShare j.role.sharing = false) :
      ∃ r, step s = .refused r :=
    step_refused_of_check (c := (anyPair (predConflict s.launch) _, .illFormedPacket .sharedPredicate)) hp hlines
      (by simp [Launch.checks]) (anyPair_append _ l₁ l₂ l₃ i j (predConflict_of_mem hi hj h))
  refine ⟨hrefused, fun hi hj hform => hrefused (mem_preds_of_canGenerate hi) (mem_preds_of_canGenerate hj) ?_⟩
  obtain ⟨k, hk, rs, rt, rss, rtt, n, ps, pt, pu, hform⟩ := hform
  have hmay : s.launch.mayShare k.role.sharing = false := by
    rcases hform with hnever | ⟨hoff, hlogical⟩ | ⟨hoff, hother⟩
    · rw [sharing_of_mem (c := .never) rfl hnever, Launch.mayShare]
    · rw [sharing_of_mem (c := .logical) rfl hlogical, Launch.mayShare, hoff]
    · rw [sharing_of_mem (c := .other) rfl hother, Launch.mayShare, hoff]
  simp only [List.mem_cons, List.not_mem_nil, or_false] at hk
  rcases hk with rfl | rfl
  · exact .inl hmay
  · exact .inr hmay

/-! ### A packet of one line (R300) -/

theorem merged_singleton (o : Result) : merged [o] = effectsOf o := by
  simp [merged, Effects.merge]

/-- A packet of one line that decodes and passes the static checks. -/
theorem atPacket_singleton {s : State} {p : PacketText} {line : Text} {i : Instr}
    (hhalt : s.launch.haltPc ≠ some s.pc) (hp : s.launch.packetAt s.pc = some p) (hline : p.lines = [line])
    (hdecode : decode line = .ok i) (hok : s.launch.refusal [i] = none) : AtPacket s [i] := by
  refine ⟨hhalt, p, hp, admitted_iff.2 ⟨?_, ?_, hok⟩⟩
  · rw [hline]; rfl
  · rw [hline]; exact readLines_singleton hdecode

theorem runPacket_singleton_fault {s : State} {i : Instr} {f : Fault} (h : exec i (s.generated [i]) = .fault f) :
    s.runPacket [i] = .fault f := by
  unfold State.runPacket
  simp only [outcomes, List.map_cons, List.map_nil, h]
  cases f <;> rfl

/-- Settles O28. -/
theorem stepRunsDecodedInstruction : Obligations.StepRunsDecodedInstruction := by
  intro s p line i hhalt hp hline hdecode _ hok
  rw [step_atPacket (atPacket_singleton hhalt hp hline hdecode hok)]
  refine ⟨fun t pc hexec hdup hover hpc => ?_, fun f => runPacket_singleton_fault⟩
  rw [runPacket_finish (List.forall_mem_singleton.2 ⟨t, hexec⟩), outcomes, List.map_singleton, merged_singleton, hexec]
  exact finish_eq_commit hdup hover hpc

/-! ### The next pc (R304) -/

/-- At an admitted packet at most one instruction transfers control (D29). -/
theorem control_countP_le_one {l : Launch} {is : List Instr} (h : l.refusal is = none) :
    (is.countP fun i => i.role.control) ≤ 1 := by
  by_contra hlt
  exact refusal_of_check (c := (decide (1 < is.countP fun i => i.role.control), .illFormedPacket .twoTransfers))
    (by simp [Launch.checks]) (decide_eq_true (not_le.1 hlt)) h

theorem refusal_none_of_atPacket {s : State} {is : List Instr} (h : AtPacket s is) : s.launch.refusal is = none := by
  obtain ⟨-, p, -, hadm⟩ := h
  exact (admitted_iff.1 hadm).2.2

/-- An instruction that is no control transfer contributes no target. -/
theorem target_none_of_not_control {s : State} {is : List Instr} {i : Instr} (h : i.role.control = false) :
    (effectsOf (exec i (s.generated is))).target = none :=
  (effectsOf_exec_allowed i s is).target h

/-- Where at most one instruction transfers control, the target that an instruction records is that of the packet. -/
theorem merged_target_of_mem {s : State} {is l : List Instr} {i : Instr} {a : Word}
    (hone : (l.countP fun i => i.role.control) ≤ 1) (hi : i ∈ l)
    (ha : (effectsOf (exec i (s.generated is))).target = some a) :
    (merged (outcomes l (s.generated is))).target = some a := by
  induction l with
  | nil => cases hi
  | cons j l ih =>
    have hcons : (merged (outcomes (j :: l) (s.generated is))).target =
        (effectsOf (exec j (s.generated is))).target.or (merged (outcomes l (s.generated is))).target := rfl
    rw [hcons]
    rcases List.mem_cons.1 hi with rfl | hil
    · rw [ha]; rfl
    · have hcontrol : i.role.control = true := by
        by_contra hc
        rw [target_none_of_not_control (Bool.not_eq_true _ ▸ hc)] at ha
        cases ha
      have hpos : 0 < l.countP fun i => i.role.control := List.countP_pos_iff.2 ⟨i, hil, hcontrol⟩
      rw [List.countP_cons] at hone
      have hj : j.role.control = false := by
        by_contra hc
        rw [if_pos (Bool.not_eq_false _ ▸ hc)] at hone
        omega
      rw [target_none_of_not_control hj, Option.none_or]
      exact ih (by omega) hil

/-- Settles O41. -/
theorem nextPcRule : Obligations.NextPcRule := by
  intro s t is hat h
  obtain ⟨pc, hpc, rfl⟩ := step_next_commit hat h
  constructor
  · intro i hi a ha
    have htarget := merged_target_of_mem (control_countP_le_one (refusal_none_of_atPacket hat)) hi ha
    rw [State.nextPc, htarget] at hpc
    exact (Option.some.inj hpc).symm
  · intro hnone
    have htarget : (merged (outcomes is (s.generated is))).target = none :=
      merged_target_none fun o ho => by obtain ⟨i, hi, rfl⟩ := mem_outcomes.1 ho; exact hnone i hi
    rcases nextPc_cases hpc with h | h
    · rw [htarget] at h; cases h
    · exact h

/-! ### Predicate results (R303 to R305, R310) -/

/-- A bit of an AND over results is set exactly if it is set in each of them. -/
theorem getLsbD_foldl_and (v : Byte) (rs : List (PReg × Byte)) (k : Nat) :
    (rs.foldl (fun v q => v &&& q.2) v).getLsbD k = true ↔
      v.getLsbD k = true ∧ ∀ w ∈ rs, w.2.getLsbD k = true := by
  induction rs generalizing v with
  | nil => simp
  | cons r rs ih => simp [ih, and_assoc]

/-- Each bit of the combined value is the AND of that bit over the results for the register (R305). -/
theorem combined_getLsbD {rs : List (PReg × Byte)} {d : PReg} {v : Byte} (h : combined rs d = some v) (k : Nat) :
    v.getLsbD k = true ↔ ∀ w ∈ rs, w.1 = d → w.2.getLsbD k = true := by
  have hfilter : (∀ w ∈ rs, w.1 = d → w.2.getLsbD k = true) ↔
      ∀ w ∈ rs.filter fun r => decide (r.1 = d), w.2.getLsbD k = true := by
    simp only [List.mem_filter, decide_eq_true_eq, and_imp]
  rw [hfilter]
  unfold combined at h
  split at h
  · cases h
  · rename_i hl
    rw [hl, List.forall_mem_cons, ← Option.some.inj h]
    exact getLsbD_foldl_and ..

/-- With a result for it, a predicate register has a combined value. -/
theorem combined_isSome {rs : List (PReg × Byte)} {d : PReg} (h : ∃ w ∈ rs, w.1 = d) : ∃ v, combined rs d = some v := by
  obtain ⟨w, hw, hd⟩ := h
  exact Option.ne_none_iff_exists'.1 fun hnone => combined_none.1 hnone w hw hd

/-- After a step a predicate register holds the combined value of the results that the packet's instructions record, or
else its old value. -/
theorem step_next_pred {s t : State} {is : List Instr} (hat : AtPacket s is) (h : step s = .next t) (d : PReg) :
    t.pred d =
      (combined (is.flatMap fun i => (effectsOf (exec i (s.generated is))).preds) d).getD (s.pred d) := by
  rw [step_atPacket hat] at h
  obtain ⟨hnext, -, -, pc, -, rfl⟩ := runPacket_next h
  rw [commit_pred, predResults_begin s is hnext]

/-- Settles O37. -/
theorem predicateCommitIsTheAndOfResults : Obligations.PredicateCommitIsTheAndOfResults := by
  intro s t is d hat h
  rw [step_next_pred hat h d]
  constructor
  · intro hnone
    rw [combined_none.2 hnone, Option.getD_none]
  · intro hsome k _
    obtain ⟨v, hv⟩ := combined_isSome hsome
    rw [hv, Option.getD_some]
    exact combined_getLsbD hv k

/-! ### The newly generated values (R310, R311) -/

theorem exists_result_of_recordPred {pd d : PReg} {v : Byte} {s t : State} (hd : d ∈ [pd])
    (h : Host.Outcome.next (s.recordPred pd v) = (.next t : Result)) : ∃ v, (d, v) ∈ t.pkt.effects.preds := by
  cases h
  rw [List.mem_singleton.1 hd]
  exact ⟨v, List.mem_append_right _ List.mem_cons_self⟩

theorem exists_result_of_storeConditional {w : Nat} {a : Word} {z : ResvSize} {x : BitVec w} {pd d : PReg}
    {s t : State} (hd : d ∈ [pd]) (h : storeConditional a z x pd s = .next t) :
    ∃ v, (d, v) ∈ t.pkt.effects.preds := by
  obtain ⟨-, -, ⟨-, rfl⟩ | ⟨-, rfl⟩⟩ := storeConditional_next h
  · exact exists_result_of_recordPred hd rfl
  · exact exists_result_of_recordPred hd rfl

/-- An instruction that completes has a result for each predicate register that is a destination of it, if it is no
quadruple transfer: what the static checks count as a producer is one (R311, D38). -/
theorem exists_result_of_produces {i : Instr} {s t : State} {d : PReg} (h : exec i s = .next t)
    (hd : produces d i = true) : ∃ v, (d, v) ∈ t.pkt.effects.preds := by
  simp only [produces, Bool.and_eq_true, List.contains_iff_mem, Bool.not_eq_true'] at hd
  obtain ⟨hd, hquad⟩ := hd
  cases i with
  | cmpbEqRr | cmpbEqRi | cmphEqRr | cmphEqRi | cmpEqRr | ncmpEqRr | cmpEqRi | ncmpEqRi | cmpEqPp | sfcmpEq
  | dfcmpEq | cmpbGtRr | cmpbGtRi | cmphGtRr | cmphGtRi | cmpGtRr | ncmpGtRr | cmpGtRi | ncmpGtRi | cmpGtPp
  | sfcmpGt | dfcmpGt | cmpbGtuRr | cmpbGtuRi | cmphGtuRr | cmphGtuRi | cmpGtuRr | ncmpGtuRr | cmpGtuRi
  | ncmpGtuRi | cmpGtuPp | cmpGeRi | sfcmpGe | dfcmpGe | cmpGeuRi | cmpLtRr | cmpLtuRr | sfcmpUo | dfcmpUo
  | sfclass | dfclass | tstbitRr | ntstbitRr | tstbitRi | ntstbitRi | bitsclrRr | nbitsclrRr | bitsclrRi
  | nbitsclrRi | bitssetRr | nbitssetRr | boundscheck | tlbmatch | tfrPp | tfrPr | andPp | andPpn | orPp | orPpn
  | andAndPpp | andAndPppn | andOrPpp | andOrPppn | orAndPpp | orAndPppn | orOrPpp | orOrPppn | notP | xorPp
  | any8 | all8 | vcmpbEq | vcmphEq | vcmpwEq | vcmpbGt | vcmpbGtu | vcmphGt | vcmphGtu | vcmpwGt | vcmpwGtu =>
    exact exists_result_of_recordPred hd h
  | memwLockedSt | memdLockedSt => exact exists_result_of_storeConditional hd h
  | tfrP4r | tfrC54 => cases hquad
  | _ => cases hd

/-- A `.new` guard of an admitted packet has a producer in it (R311). -/
theorem exists_producer_of_atPacket {s : State} {is : List Instr} {i : Instr} {u : PReg} (h : AtPacket s is)
    (hi : i ∈ is) (hu : i.newReg = some u) : ∃ j ∈ is, produces u j = true := by
  have hall : is.any (lacksProducer is) = false :=
    check_atPacket h (c := (is.any (lacksProducer is), .illFormedPacket .newWithoutProducer)) (by simp [Launch.checks])
  have hlacks : ¬lacksProducer is i = true := List.any_eq_false.1 hall i hi
  simp only [lacksProducer, hu, Bool.not_eq_true', Bool.not_eq_false] at hlacks
  exact List.any_eq_true.1 hlacks

/-- The newly generated value of a predicate register is the combined value of the results that are recorded. -/
theorem newPred_generated {s : State} {is : List Instr} (h : ∀ i ∈ is, ∃ u, exec i (s.generated is) = .next u)
    (d : PReg) :
    (s.generated is).newPred d = combined (is.flatMap fun i => (effectsOf (exec i (s.generated is))).preds) d := by
  rw [State.newPred, State.generated_newP, newValues_get, predResults_begin s is h]

/-- Settles O38. -/
theorem dotNewReadsTheCommittedValue : Obligations.DotNewReadsTheCommittedValue := by
  intro s t is i u hat h hi hu
  have hrun := step_atPacket hat ▸ h
  obtain ⟨hnext, -⟩ := runPacket_next hrun
  obtain ⟨j, hj, hproduces⟩ := exists_producer_of_atPacket hat hi hu
  obtain ⟨x, hx⟩ := hnext j hj
  obtain ⟨v, hv⟩ := exists_result_of_produces hx hproduces
  have hresult : (u, v) ∈ is.flatMap fun i => (effectsOf (exec i (s.generated is))).preds :=
    List.mem_flatMap.2 ⟨j, hj, by rw [hx]; exact hv⟩
  obtain ⟨c, hc⟩ := combined_isSome ⟨_, hresult, rfl⟩
  rw [newPred_generated hnext, step_next_pred hat h u, hc, Option.getD_some]

/-! ### Packets of two instructions (R301, R305, R307) -/

/-- Two instructions that complete with one result each for `Pd` commit the AND of the results to it and leave the other
predicate registers. -/
theorem commitPreds_generated_pair {s u u' : State} {i j : Instr} {d : PReg} {x y : Byte}
    (hi : exec i (s.generated [i, j]) = .next u) (hj : exec j (s.generated [i, j]) = .next u')
    (hx : u.pkt.effects.preds = [(d, x)]) (hy : u'.pkt.effects.preds = [(d, y)]) :
    commitPreds s.preds (s.generated [i, j]).pkt.newP = s.preds.set d.val (x &&& y) := by
  have hnext : ∀ k ∈ [i, j], ∃ u, exec k (s.generated [i, j]) = .next u :=
    List.forall_mem_cons.2 ⟨⟨u, hi⟩, List.forall_mem_singleton.2 ⟨u', hj⟩⟩
  have hresults : predResults [i, j] (s.begin [i, j].length) = [(d, x), (d, y)] := by
    rw [predResults_begin s _ hnext]
    simp [hi, hj, effectsOf, hx, hy]
  ext1 q hq
  have hget := commitPreds_get s.preds (s.generated [i, j]).pkt.newP ⟨q, hq⟩
  rw [State.generated_newP, newValues_get, hresults] at hget
  refine hget.trans ?_
  by_cases hdq : d.val = q
  · subst hdq
    simp [combined]
  · have hne : d ≠ ⟨q, hq⟩ := fun e => hdq (congrArg Fin.val e)
    simp [combined, hne, Vector.getElem_set_ne _ _ hdq]

/-- A packet of two instructions that record one predicate result each, both for `Pd`, and nothing else. -/
theorem step_two_results {s : State} {i j : Instr} {d : PReg} {x y : Byte} (hat : AtPacket s [i, j])
    (hroom : RoomAfter s 2)
    (hi : exec i (s.generated [i, j]) = .next ((s.generated [i, j]).recordPred d x))
    (hj : exec j (s.generated [i, j]) = .next ((s.generated [i, j]).recordPred d y)) :
    step s = .next { s.after 2 with preds := s.preds.set d.val (x &&& y) } := by
  have hnext : ∀ k ∈ [i, j], ∃ u, exec k (s.generated [i, j]) = .next u :=
    List.forall_mem_cons.2 ⟨⟨_, hi⟩, List.forall_mem_singleton.2 ⟨_, hj⟩⟩
  have hmerged : merged (outcomes [i, j] (s.generated [i, j])) = { Effects.none with preds := [(d, x), (d, y)] } := by
    simp only [outcomes, List.map_cons, List.map_nil, hi, hj]
    rfl
  rw [step_atPacket hat, runPacket_finish hnext, hmerged]
  refine (finish_eq_commit rfl rfl (nextPc_of_room hroom rfl)).trans ?_
  rw [State.commit, commitPreds_generated_pair hi hj rfl rfl]
  rfl

theorem truth_and (a b : Bool) : truth a &&& truth b = truth (a && b) := by
  cases a <;> cases b <;> rfl

/-- Settles O46: the AND of two negations is the negation of the OR. -/
theorem orByNegatedCompares : Obligations.OrByNegatedCompares := by
  intro s d rs rt ru rv hat hroom
  have hand : truth (!decide (s.reg rs = s.reg rt)) &&& truth (!gtUnsigned (s.reg ru) (s.reg rv)) =
      if s.reg rs = s.reg rt ∨ (s.reg rv).toNat < (s.reg ru).toNat then 0x00#8 else 0xFF#8 := by
    rw [truth_and, ← Bool.not_or, gtUnsigned, ← Bool.decide_or, ← decide_not, truth_decide, ite_not]
  refine ⟨_, step_two_results hat hroom rfl rfl, fun h => ?_, fun h => ?_, fun q hq => ?_, rfl, rfl⟩
  · exact (Vector.getElem_set_self _).trans (hand.trans (if_pos h))
  · exact (Vector.getElem_set_self _).trans (hand.trans (if_neg h))
  · exact Vector.getElem_set_ne d.isLt q.isLt fun e => hq (Fin.ext e.symm)

/-- Settles O42: both transfers read the state at packet start. -/
theorem packetReadsOldRegisters : Obligations.PacketReadsOldRegisters := by
  intro s ra rb hne hat hroom
  have hnext : ∀ k ∈ [Instr.tfr ra rb, .tfr rb ra], ∃ u, exec k (s.generated [.tfr ra rb, .tfr rb ra]) = .next u :=
    List.forall_mem_cons.2 ⟨⟨_, rfl⟩, List.forall_mem_singleton.2 ⟨_, rfl⟩⟩
  have hresults : predResults [.tfr ra rb, .tfr rb ra] (s.begin [Instr.tfr ra rb, .tfr rb ra].length) = [] := rfl
  have hdup : duplicate [(ra, s.reg rb), (rb, s.reg ra)] = none := by simp [duplicate, hne.symm]
  rw [step_atPacket hat, runPacket_finish hnext]
  refine (finish_eq_commit hdup rfl (nextPc_of_room hroom rfl)).trans ?_
  rw [State.commit, commitPreds_generated_of_no_results hresults]
  rfl

/-! ### Registers written twice (R322) -/

/-- No register is reported exactly if all recorded writes are to different ones. -/
theorem duplicate_eq_none_iff {ws : List (GReg × Word)} : duplicate ws = none ↔ (ws.map Prod.fst).Nodup := by
  induction ws with
  | nil => simp [duplicate]
  | cons w ws ih =>
    obtain ⟨r, v⟩ := w
    by_cases h : ∃ x, (r, x) ∈ ws <;> simp [duplicate, ih, h]

/-- Settles O48. -/
theorem twoExecutedWritersRaise : Obligations.TwoExecutedWritersRaise := by
  intro s l₁ l₂ l₃ i j r v w hat hnext hv hw
  rw [step_atPacket hat, runPacket_finish hnext]
  generalize hg : s.generated (l₁ ++ i :: l₂ ++ j :: l₃) = g at hv hw ⊢
  have hne : duplicate (merged (outcomes (l₁ ++ i :: l₂ ++ j :: l₃) g)).regs ≠ none := by
    intro hnone
    have hi : r ∈ (effectsOf (exec i g)).regs.map Prod.fst := List.mem_map_of_mem hv
    have hj : r ∈ (effectsOf (exec j g)).regs.map Prod.fst := List.mem_map_of_mem hw
    rw [duplicate_eq_none_iff, merged_regs, outcomes, List.flatMap_map, List.map_flatMap, List.nodup_flatMap] at hnone
    obtain ⟨-, hdisjoint⟩ := hnone
    obtain ⟨-, -, hacross⟩ := List.pairwise_append.1 hdisjoint
    exact hacross i (by simp) j (by simp) hi hj
  obtain ⟨q, hq⟩ := Option.ne_none_iff_exists'.1 hne
  refine ⟨q, ?_⟩
  simp only [State.finish, hq, raise]

end Sys2Proof.Machine
end

section
/-!
PROOFS, the lines of a packet have no order (R302): the static checks, the generated values, the merged effects and the
commit of a packet are those of each permutation of its lines. The AND of predicate results does not depend on the
order, a register is written once, at most one instruction has a target, and the stores do not overlap.
-/

namespace Sys2Proof.Machine

/-! ### The static checks (R324) -/

theorem anyPair_eq_false_iff {α : Type} {f : α → α → Bool} {l : List α} :
    anyPair f l = false ↔ l.Pairwise fun x y => f x y = false := by
  induction l with
  | nil => simp [anyPair]
  | cons x xs ih => simp [anyPair, ih]

/-- Whether some two members stand in a symmetric relation does not depend on the order. -/
theorem anyPair_perm {α : Type} {f : α → α → Bool} {l l' : List α} (hf : ∀ x y, f x y = f y x) (h : l.Perm l') :
    anyPair f l = anyPair f l' := by
  rw [← Bool.not_inj_iff, ← Bool.coe_false_iff_false, anyPair_eq_false_iff, anyPair_eq_false_iff]
  exact h.pairwise_iff fun hxy => (hf _ _).trans hxy

theorem any_contains_comm {α : Type} [BEq α] [LawfulBEq α] (l l' : List α) :
    l.any l'.contains = l'.any l.contains := by
  rw [Bool.eq_iff_iff, List.any_eq_true, List.any_eq_true]
  simp only [List.contains_iff_mem, and_comm]

theorem quadConflict_comm (i j : Instr) : quadConflict i j = quadConflict j i := Bool.or_comm _ _

theorem predConflict_comm (l : Launch) (i j : Instr) : predConflict l i j = predConflict l j i := by
  rw [predConflict, predConflict, any_contains_comm, Bool.and_comm (l.mayShare i.role.sharing)]

theorem regConflict_comm (i j : Instr) : regConflict i j = regConflict j i := by
  rw [regConflict, regConflict, any_contains_comm, Bool.and_comm i.guard.isSome]

theorem lacksProducer_perm {is js : List Instr} (h : is.Perm js) : lacksProducer is = lacksProducer js := by
  funext i
  simp only [lacksProducer, h.any_eq]

/-- The static checks do not depend on the order of the lines. -/
theorem checks_perm (l : Launch) {is js : List Instr} (h : is.Perm js) : l.checks is = l.checks js := by
  simp only [Launch.checks, lacksProducer_perm h, h.any_eq, h.countP_eq, anyPair_perm quadConflict_comm h,
    anyPair_perm (predConflict_comm l) h, anyPair_perm regConflict_comm h]

theorem refusal_perm (l : Launch) {is js : List Instr} (h : is.Perm js) : l.refusal is = l.refusal js := by
  rw [Launch.refusal, Launch.refusal, checks_perm l h]

/-! ### The newly generated values (R305) -/

/-- The combined value depends only on which results there are. -/
theorem combined_perm {rs rs' : List (PReg × Byte)} (h : rs.Perm rs') (d : PReg) : combined rs d = combined rs' d := by
  cases hc : combined rs d with
  | none =>
    rw [combined_none] at hc
    exact (combined_none.2 fun w hw => hc w (h.mem_iff.2 hw)).symm
  | some v =>
    cases hc' : combined rs' d with
    | none =>
      rw [combined_none] at hc'
      rw [combined_none.2 fun w hw => hc' w (h.mem_iff.1 hw)] at hc
      cases hc
    | some v' =>
      refine congrArg some (BitVec.eq_of_getLsbD_eq fun k _ => ?_)
      rw [Bool.eq_iff_iff, combined_getLsbD hc, combined_getLsbD hc']
      simp only [h.mem_iff]

/-- The state that the instructions read does not depend on the order of the lines. -/
theorem generated_perm (s : State) {is js : List Instr} (h : is.Perm js) : s.generated is = s.generated js := by
  have hvalues : newValues is (s.begin is.length) = newValues js (s.begin js.length) := by
    ext1 d hd
    rw [newValues_get is _ ⟨d, hd⟩, newValues_get js _ ⟨d, hd⟩, h.length_eq]
    exact combined_perm (h.flatMap_right _) _
  rw [State.generated, State.generated, hvalues, h.length_eq]

/-! ### The merged effects (R300 phase 3) -/

/-- The effects `b` are the effects `a` in another order. -/
structure Effects.Rearranged (a b : Effects) : Prop where
  regs : a.regs.Perm b.regs
  loads : a.loads.Perm b.loads
  stores : a.stores.Perm b.stores
  target : a.target = b.target
  clearsResv : a.clearsResv = b.clearsResv

/-- The target of a packet of which at most one instruction transfers control is that of one of its instructions. -/
theorem merged_target_iff {s : State} {is l : List Instr} (hone : (l.countP fun i => i.role.control) ≤ 1) (a : Word) :
    (merged (outcomes l (s.generated is))).target = some a ↔
      ∃ i ∈ l, (effectsOf (exec i (s.generated is))).target = some a := by
  constructor
  · intro h
    obtain ⟨o, ho, ha⟩ := merged_target_some h
    obtain ⟨i, hi, rfl⟩ := mem_outcomes.1 ho
    exact ⟨i, hi, ha⟩
  · rintro ⟨i, hi, ha⟩
    exact merged_target_of_mem hone hi ha

/-- The effects of a packet of which at most one instruction transfers control are, in another order, those of each
permutation of it. -/
theorem merged_rearranged {s : State} {is js : List Instr} (h : is.Perm js)
    (hone : (is.countP fun i => i.role.control) ≤ 1) :
    (merged (outcomes is (s.generated is))).Rearranged (merged (outcomes js (s.generated is))) := by
  have hos : (outcomes is (s.generated is)).Perm (outcomes js (s.generated is)) := h.map _
  refine ⟨?_, ?_, ?_, Option.ext fun a => ?_, ?_⟩
  · rw [merged_regs, merged_regs]; exact hos.flatMap_right _
  · rw [merged_loads, merged_loads]; exact hos.flatMap_right _
  · rw [merged_stores, merged_stores]; exact hos.flatMap_right _
  · rw [merged_target_iff hone, merged_target_iff (h.countP_eq _ ▸ hone)]
    simp only [h.mem_iff]
  · rw [Bool.eq_iff_iff, clearsResv_of_outcomes, clearsResv_of_outcomes]
    simp only [h.mem_iff]

theorem Store.meets_comm (x y : Store) : x.meets y = y.meets x := Bool.and_comm _ _

theorem overlapping_rearranged {a b : Effects} (h : a.Rearranged b) : a.overlapping = b.overlapping := by
  simp only [Effects.overlapping, h.loads.any_eq, h.stores.any_eq, anyPair_perm Store.meets_comm h.stores]

theorem duplicate_rearranged {a b : Effects} (h : a.Rearranged b) (ha : duplicate a.regs = none) :
    duplicate b.regs = none :=
  duplicate_eq_none_iff.2 ((h.regs.map _).nodup_iff.1 (duplicate_eq_none_iff.1 ha))

theorem nextPc_rearranged {a b : Effects} (h : a.Rearranged b) (s : State) (n : Nat) : s.nextPc n a = s.nextPc n b := by
  rw [State.nextPc, State.nextPc, h.target]

/-! ### The commit (R300 phase 5) -/

/-- The commit of writes to different registers does not depend on their order. -/
theorem commitRegs_perm {regs : Vector Word 32} {ws ws' : List (GReg × Word)} (h : ws.Perm ws')
    (hdup : duplicate ws = none) : commitRegs regs ws = commitRegs regs ws' := by
  have hinj := List.inj_on_of_nodup_map (duplicate_eq_none_iff.1 hdup)
  refine h.foldl_eq' (fun x hx y hy v => ?_) regs
  by_cases hxy : x = y
  · rw [hxy]
  · exact Vector.set_comm _ _ fun e => hxy (hinj hx hy (Fin.ext e))

/-- Of stores that do not overlap, each one is found in memory after the commit. -/
theorem find_commitStores_of_within {m : Memory} {xs : List Store} {x : Store} {b : Nat}
    (hover : anyPair Store.meets xs = false) (hx : x ∈ xs) (hb : Within x.addr x.bytes.length b) :
    (commitStores m xs).find b = x.bytes[b - x.addr.toNat]? := by
  induction xs generalizing m with
  | nil => cases hx
  | cons y ys ih =>
    obtain ⟨hy, hys⟩ := List.pairwise_cons.1 (anyPair_eq_false_iff.1 hover)
    have hcons : commitStores m (y :: ys) = commitStores (m.putBytes y.addr.toNat y.bytes) ys := rfl
    rw [hcons]
    rcases List.mem_cons.1 hx with rfl | hxs
    · have hrest : ∀ z ∈ ys, ¬Within z.addr z.bytes.length b := fun z hz hzb =>
        Bool.false_ne_true ((hy z hz).symm.trans (overlap_of_within hb hzb))
      rw [find_commitStores_of_not_within hrest, Memory.find_putBytes]
      exact if_pos hb
    · exact ih (anyPair_eq_false_iff.2 hys) hxs

/-- The commit of stores that do not overlap does not depend on their order. -/
theorem commitStores_perm {m : Memory} {xs ys : List Store} (h : xs.Perm ys) (hm : m.wf = true)
    (hbound : ∀ x ∈ xs, x.addr.toNat + x.bytes.length ≤ 2 ^ 32) (hover : anyPair Store.meets xs = false) :
    commitStores m xs = commitStores m ys := by
  have hbound' : ∀ y ∈ ys, y.addr.toNat + y.bytes.length ≤ 2 ^ 32 := fun y hy => hbound y (h.mem_iff.2 hy)
  have hover' : anyPair Store.meets ys = false := anyPair_perm Store.meets_comm h ▸ hover
  refine Memory.ext_find _ _ (wf_commitStores m xs hbound hm) (wf_commitStores m ys hbound' hm) fun b => ?_
  by_cases hb : ∃ x ∈ xs, Within x.addr x.bytes.length b
  · obtain ⟨x, hx, hxb⟩ := hb
    rw [find_commitStores_of_within hover hx hxb, find_commitStores_of_within hover' (h.mem_iff.1 hx) hxb]
  · push Not at hb
    rw [find_commitStores_of_not_within hb, find_commitStores_of_not_within fun y hy => hb y (h.mem_iff.2 hy)]

/-- Effects that pass the checks of phase 4 are committed to the same state in each order. -/
theorem commit_rearranged {s : State} {a b : Effects} (h : a.Rearranged b) (hmem : s.mem.wf = true)
    (hbound : ∀ x ∈ a.stores, x.addr.toNat + x.bytes.length ≤ 2 ^ 32) (hdup : duplicate a.regs = none)
    (hover : a.overlapping = false) (new : Vector (Option Byte) 4) (pc : Word) :
    s.commit new a pc = s.commit new b pc := by
  obtain ⟨-, hstores⟩ := Bool.or_eq_false_iff.1 hover
  rw [State.commit, State.commit, commitRegs_perm h.regs hdup, commitStores_perm h.stores hmem hbound hstores,
    h.clearsResv]

/-- Settles O35. -/
theorem lineOrderHasNoMeaning : Obligations.LineOrderHasNoMeaning := by
  intro s is js hperm hmem hok
  refine ⟨refusal_perm s.launch hperm ▸ hok, fun t h => ?_⟩
  obtain ⟨hnext, hdup, hover, pc, hpc, rfl⟩ := runPacket_next h
  have hgen : s.generated is = s.generated js := generated_perm s hperm
  have hsame := merged_rearranged (s := s) hperm (control_countP_le_one hok)
  have hnext' : ∀ j ∈ js, ∃ u, exec j (s.generated js) = .next u :=
    fun j hj => hgen ▸ hnext j (hperm.mem_iff.2 hj)
  rw [runPacket_finish hnext', ← hgen, ← hperm.length_eq,
    commit_rearranged hsame hmem (fun _ hx => merged_stores_bound hx) hdup hover]
  exact finish_eq_commit (duplicate_rearranged hsame hdup) (overlapping_rearranged hsame ▸ hover)
    (nextPc_rearranged hsame s is.length ▸ hpc)

end Sys2Proof.Machine
end

section
/-!
PROOFS, the statements of `spec/43_vector_predicates.md`: the bits that a vector compare generates, the bytes that
`vmux` takes, and the two together. A lane of `n` bytes is decided by its bytes (`lane_ext_bytes`), and a compare sets
the bits of all bytes of a lane alike, so `vmux` under its result moves whole lanes (`exec_vmux_lanes`).
-/

namespace Sys2Proof.Machine

/-! ### The vector compares (R401 to R404) -/

/-- A predicate result made bit by bit has bit `k` where the relation holds of the lane of byte `k`. -/
theorem exists_result_of_predOfBits {r : Result} {s : State} {pd : PReg} {f : Nat → Bool} {holds : Nat → Prop}
    (hr : r = .next (s.recordPred pd (predOfBits f))) (hf : ∀ k, f k = true ↔ holds k) :
    ∃ v, r = .next (s.recordPred pd v) ∧ ∀ k < 8, (v.getLsbD k = true ↔ holds k) :=
  ⟨predOfBits f, hr, fun k hk => predOfBits_getLsbD f k hk ▸ hf k⟩

theorem vcmphEq_generates (pd : PReg) (rss rtt : PairReg) (s : State) :
    ∃ v, exec (.vcmphEq pd rss rtt) s = .next (s.recordPred pd v) ∧
      ∀ k < 8, (v.getLsbD k = true ↔ halfLane (s.pair rss) (k / 2) = halfLane (s.pair rtt) (k / 2)) :=
  exists_result_of_predOfBits rfl fun _ => decide_eq_true_iff

theorem vcmpwEq_generates (pd : PReg) (rss rtt : PairReg) (s : State) :
    ∃ v, exec (.vcmpwEq pd rss rtt) s = .next (s.recordPred pd v) ∧
      ∀ k < 8, (v.getLsbD k = true ↔ wordLane (s.pair rss) (k / 4) = wordLane (s.pair rtt) (k / 4)) :=
  exists_result_of_predOfBits rfl fun _ => decide_eq_true_iff

/-- Settles O25. -/
theorem vectorComparesSetLaneBits : Obligations.VectorComparesSetLaneBits := by
  intro pd rss rtt s
  simp only [Nat.div_one]
  exact ⟨exists_result_of_predOfBits rfl fun _ => decide_eq_true_iff,
    exists_result_of_predOfBits rfl fun _ => gtSigned_iff _ _,
    exists_result_of_predOfBits rfl fun _ => gtUnsigned_iff _ _,
    vcmphEq_generates pd rss rtt s,
    exists_result_of_predOfBits rfl fun _ => gtSigned_iff _ _,
    exists_result_of_predOfBits rfl fun _ => gtUnsigned_iff _ _,
    vcmpwEq_generates pd rss rtt s,
    exists_result_of_predOfBits rfl fun _ => gtSigned_iff _ _,
    exists_result_of_predOfBits rfl fun _ => gtUnsigned_iff _ _⟩

/-! ### The vector mux (R405) -/

theorem exec_vmux_bytes (rdd : PairReg) (ps : PReg) (rss rtt : PairReg) (s : State) :
    ∃ w, exec (.vmux rdd ps rss rtt) s = .next (s.recordPair rdd w) ∧
      ∀ i < 8, byteLane w i =
        if (s.pred ps).getLsbD i then byteLane (s.pair rss) i else byteLane (s.pair rtt) i :=
  ⟨_, rfl, ofByteLanes_extract _⟩

/-- Settles O26. A pair is written as its two words by the definition of `recordPair`. -/
theorem vectorMuxSelectsBytes : Obligations.VectorMuxSelectsBytes := exec_vmux_bytes

/-! ### A compare that feeds the mux (R406) -/

/-- Lane `i` of `n` bytes is decided by the bytes that belong to it. -/
theorem lane_ext_bytes {v w : DWord} {n i : Nat} (hi : n * i + n ≤ 8)
    (h : ∀ b < 8, b / n = i → byteLane v b = byteLane w b) :
    v.extractLsb' (8 * n * i) (8 * n) = w.extractLsb' (8 * n * i) (8 * n) := by
  apply BitVec.eq_of_getLsbD_eq
  intro k hk
  have hin : k / 8 < n := by omega
  have hbyte : byteLane v (n * i + k / 8) = byteLane w (n * i + k / 8) :=
    h _ (by omega) (Nat.div_eq_of_lt_le (by rw [mul_comm]; omega) (by rw [Nat.succ_mul, mul_comm]; omega))
  have hpos : 8 * n * i + k = 8 * (n * i + k / 8) + k % 8 := by rw [mul_assoc]; omega
  have hbit := congrArg (·.getLsbD (k % 8)) hbyte
  have hmod : k % 8 < 8 := Nat.mod_lt _ (by decide)
  simpa only [byteLane, BitVec.getLsbD_extractLsb', hk, hmod, hpos, decide_true, Bool.true_and] using hbit

/-- Under a predicate that has the bits of each lane of `n` bytes alike, `vmux` takes whole lanes. -/
theorem exec_vmux_lanes {n m : Nat} {picks : Nat → Prop} [DecidablePred picks] (hnm : n * m = 8)
    {rdd : PairReg} {ps : PReg} {rss rtt : PairReg} {s : State}
    (hp : ∀ k < 8, ((s.pred ps).getLsbD k = true ↔ picks (k / n))) :
    ∃ w, exec (.vmux rdd ps rss rtt) s = .next (s.recordPair rdd w) ∧
      ∀ i < m, w.extractLsb' (8 * n * i) (8 * n) =
        if picks i then (s.pair rss).extractLsb' (8 * n * i) (8 * n)
        else (s.pair rtt).extractLsb' (8 * n * i) (8 * n) := by
  obtain ⟨w, hw, hbytes⟩ := exec_vmux_bytes rdd ps rss rtt s
  refine ⟨w, hw, fun i hi => ?_⟩
  have hlane : n * i + n ≤ 8 := hnm ▸ Nat.mul_le_mul_left n hi
  have hchosen : ∀ b < 8, b / n = i →
      byteLane w b = if picks i then byteLane (s.pair rss) b else byteLane (s.pair rtt) b := by
    rintro b hb rfl
    simp only [hbytes b hb, hp b hb]
  by_cases hc : picks i
  · simp only [hc, if_true] at hchosen ⊢
    exact lane_ext_bytes hlane hchosen
  · simp only [hc, if_false] at hchosen ⊢
    exact lane_ext_bytes hlane hchosen

/-- Settles O27. -/
theorem halfwordComparesSelectHalfwords : Obligations.HalfwordComparesSelectHalfwords := by
  intro pd ps ra rb rdd rss rtt s u
  obtain ⟨v, hv, hhalf⟩ := vcmphEq_generates pd ra rb s
  obtain ⟨v', hv', hword⟩ := vcmpwEq_generates pd ra rb s
  exact ⟨⟨v, hv, fun hu => exec_vmux_lanes (n := 2) (m := 4) rfl (hu ▸ hhalf)⟩,
    ⟨v', hv', fun hu => exec_vmux_lanes (n := 4) (m := 2) rfl (hu ▸ hword)⟩⟩

end Sys2Proof.Machine
end

section
/-!
PROOFS, the statements of `spec/44_predicate_operations.md`: predicate logic, the reductions, and the transfers between
predicate registers, general registers and the quadruple. The logic instructions compute with the operators of `BitVec`,
so each bit of a result is the operator on that bit. The bytes of the word `P3:0` are the four predicates
(`recordQuad_append`), so a saved quadruple is restored whole.
-/

namespace Sys2Proof.Machine

/-! ### Predicate logic (R503 to R516) -/

section
variable {x y : Byte} {k : Nat}

theorem getLsbD_not_byte (hk : k < 8) : (~~~x).getLsbD k = !x.getLsbD k := by
  rw [BitVec.getLsbD_not, decide_eq_true hk, Bool.true_and]

theorem getLsbD_and_not (hk : k < 8) : (x &&& ~~~y).getLsbD k = (x.getLsbD k && !y.getLsbD k) := by
  rw [BitVec.getLsbD_and, getLsbD_not_byte hk]

theorem getLsbD_or_not (hk : k < 8) : (x ||| ~~~y).getLsbD k = (x.getLsbD k || !y.getLsbD k) := by
  rw [BitVec.getLsbD_or, getLsbD_not_byte hk]

end

/-- Settles O13. -/
theorem predicateLogicIsBitwise : Obligations.PredicateLogicIsBitwise := by
  intro pd ps pt pu s
  exact ⟨⟨_, rfl, fun _ _ => BitVec.getLsbD_and⟩,
    ⟨_, rfl, fun _ hk => getLsbD_and_not hk⟩,
    ⟨_, rfl, fun _ _ => BitVec.getLsbD_or⟩,
    ⟨_, rfl, fun _ hk => getLsbD_or_not hk⟩,
    ⟨_, rfl, fun _ _ => by rw [BitVec.getLsbD_and, BitVec.getLsbD_and]⟩,
    ⟨_, rfl, fun _ hk => by rw [BitVec.getLsbD_and, getLsbD_and_not hk]⟩,
    ⟨_, rfl, fun _ _ => by rw [BitVec.getLsbD_and, BitVec.getLsbD_or]⟩,
    ⟨_, rfl, fun _ hk => by rw [BitVec.getLsbD_and, getLsbD_or_not hk]⟩,
    ⟨_, rfl, fun _ _ => by rw [BitVec.getLsbD_or, BitVec.getLsbD_and]⟩,
    ⟨_, rfl, fun _ hk => by rw [BitVec.getLsbD_or, getLsbD_and_not hk]⟩,
    ⟨_, rfl, fun _ _ => by rw [BitVec.getLsbD_or, BitVec.getLsbD_or]⟩,
    ⟨_, rfl, fun _ hk => by rw [BitVec.getLsbD_or, getLsbD_or_not hk]⟩⟩

/-! ### Reductions (R517, R518) -/

theorem byte_eq_ones_iff (x : Byte) : x = 0xFF#8 ↔ ∀ k < 8, x.getLsbD k = true := by
  have hones : ∀ k < 8, (0xFF#8).getLsbD k = true := by decide
  rw [BitVec.eq_of_getLsbD_eq_iff]
  exact forall₂_congr fun k hk => by rw [hones k hk]

theorem byte_ne_zero_iff (x : Byte) : x ≠ 0x00#8 ↔ ∃ k < 8, x.getLsbD k = true := by
  rw [ne_eq, BitVec.eq_of_getLsbD_eq_iff]
  simp only [BitVec.getLsbD_zero, not_forall, exists_prop, Bool.not_eq_false]

/-- Settles O14. -/
theorem inversionAndReductionResults : Obligations.InversionAndReductionResults := by
  intro pd ps pt s
  exact ⟨⟨_, rfl, fun _ hk => getLsbD_not_byte hk⟩,
    ⟨_, rfl, fun _ _ => BitVec.getLsbD_xor⟩,
    generates_truth rfl (decide_eq_true_iff.trans (byte_ne_zero_iff _)),
    generates_truth rfl (decide_eq_true_iff.trans (byte_eq_ones_iff _))⟩

/-! ### Transfers and the quadruple (R500 to R502, R520 to R522) -/

/-- The byte at a position above the low byte of `hi ++ lo` is a byte of `hi`. -/
theorem append_byte_above {w : Nat} (hi : BitVec w) (lo : Byte) (n : Nat) :
    (hi ++ lo).extractLsb' (n + 8) 8 = hi.extractLsb' n 8 :=
  BitVec.extractLsb'_append_eq_of_le (Nat.le_add_left 8 n)

/-- A quadruple given as four bytes: one result for each predicate register, the low byte for P0 (R17). -/
theorem recordQuad_append (s : State) (p₃ p₂ p₁ p₀ : Byte) : s.recordQuad (p₃ ++ p₂ ++ p₁ ++ p₀) =
    (((s.recordPred 0 p₀).recordPred 1 p₁).recordPred 2 p₂).recordPred 3 p₃ := by
  have h₀ : (p₃ ++ p₂ ++ p₁ ++ p₀).extractLsb' 0 8 = p₀ := BitVec.extractLsb'_append_eq_right
  have h₁ : (p₃ ++ p₂ ++ p₁ ++ p₀).extractLsb' 8 8 = p₁ := by
    rw [append_byte_above _ _ 0, BitVec.extractLsb'_append_eq_right]
  have h₂ : (p₃ ++ p₂ ++ p₁ ++ p₀).extractLsb' 16 8 = p₂ := by
    rw [append_byte_above _ _ 8, append_byte_above _ _ 0, BitVec.extractLsb'_append_eq_right]
  have h₃ : (p₃ ++ p₂ ++ p₁ ++ p₀).extractLsb' 24 8 = p₃ := by
    rw [append_byte_above _ _ 16, append_byte_above _ _ 8, BitVec.extractLsb'_append_eq_left]
  rw [State.recordQuad, h₀, h₁, h₂, h₃]

/-- Settles O45. -/
theorem quadrupleSavesAndRestores : Obligations.QuadrupleSavesAndRestores := by
  intro rd rs s u
  refine ⟨s.quad, rfl, fun hsaved => ?_⟩
  calc exec (.tfrP4r rs) u
    _ = .next (u.recordQuad (u.reg rs)) := rfl
    _ = .next (u.recordQuad s.quad) := by rw [hsaved]
    _ = _ := congrArg _ (recordQuad_append ..)

/-- Settles O12. The model moves the low byte of a register and the low word of a pair; the statement speaks of a
remainder and of the even register. -/
theorem predicateTransfersComplete : Obligations.PredicateTransfersComplete := by
  intro pd ps rd rs rss s
  rw [← lowByte_toNat, BitVec.ofNat_toNat, BitVec.ofNat_toNat, BitVec.setWidth_eq, ← wordLane_pair_low s rss]
  exact ⟨rfl, rfl, rfl, rfl, rfl, rfl⟩

end Sys2Proof.Machine
end

section
/-!
PROOFS, the statements of `spec/60_exceptions.md`: where the multiple-write error comes from. One instruction neither
raises it nor records a general register twice (`writesOnce_exec`), so it comes from phase 4, for a register that two
different instructions record (`exists_two_of_duplicate_flatMap`). The static checks let two writers of one register
pass only if both have a guard (R320), and an instruction records only if its guard is true.
-/

namespace Sys2Proof.Machine

/-! ### One instruction (R600, R601) -/

/-- The outcome of one instruction is no multiple-write error, and no general register is recorded twice in it. -/
def WritesOnce : Result → Prop
  | .next t => (t.pkt.effects.regs.map Prod.fst).Nodup
  | .fault (.raised (.multipleWriteError _ _)) => False
  | .fault _ | .refused _ => True

theorem WritesOnce.ne_multipleWrite {o : Result} (h : WritesOnce o) (r : GReg) (a : Word) :
    o ≠ .fault (.raised (.multipleWriteError r a)) := by
  rintro rfl
  exact h

theorem WritesOnce.nodup_effectsOf {o : Result} (h : WritesOnce o) : ((effectsOf o).regs.map Prod.fst).Nodup := by
  cases o with
  | next t => exact h
  | fault _ | refused _ => exact List.nodup_nil

theorem evenReg_ne_oddReg (k : PairReg) : evenReg k ≠ oddReg k := by
  simp [evenReg, oddReg]

theorem nodup_pairRegs (k : PairReg) : (pairRegs k).Nodup := by
  simp [pairRegs, evenReg_ne_oddReg]

theorem writesOnce_checked {s : State} {a : Word} {n : Nat} {k : AccessKind} {access : State → Result}
    (h : WritesOnce (access s)) : WritesOnce (checked a n k access s) := by
  unfold checked
  split
  · split
    · exact h
    · trivial
  · trivial

theorem writesOnce_loading {s : State} {a : Word} {n : Nat} (k : State → State)
    (h : ((k (s.recordLoad a n)).pkt.effects.regs.map Prod.fst).Nodup) : WritesOnce (loading a n k s) :=
  writesOnce_checked h

theorem writesOnce_loadPair {s : State} (hs : s.pkt.effects = Effects.none) (a : Word) (n : Nat) (k : PairReg)
    (v : DWord) : WritesOnce (loading a n (fun u => u.recordPair k v) s) :=
  writesOnce_loading _ (by simp [hs, evenReg_ne_oddReg])

theorem writesOnce_storing {w : Nat} {s : State} (hs : s.pkt.effects = Effects.none) (a : Word) (n : Nat)
    (v : BitVec w) : WritesOnce (storing a n v s) :=
  writesOnce_checked (by simp [WritesOnce, hs])

theorem writesOnce_storeConditional {w : Nat} {s : State} (hs : s.pkt.effects = Effects.none) (a : Word)
    (z : ResvSize) (v : BitVec w) (pd : PReg) : WritesOnce (storeConditional a z v pd s) := by
  refine writesOnce_checked ?_
  split <;> simp [WritesOnce, hs]

theorem writesOnce_deallocReturn {s : State} (hs : s.pkt.effects = Effects.none) :
    WritesOnce (execDeallocReturn s) :=
  writesOnce_loading _ (by simp [hs])

theorem writesOnce_withLabel {s : State} {name : Label} (k : Word → State → Result) (h : ∀ a, WritesOnce (k a s)) :
    WritesOnce (withLabel name k s) := by
  unfold withLabel
  split
  · exact h _
  · trivial

theorem writesOnce_guarded {g : Guard} {op : State → Result} {s : State} (hs : s.pkt.effects = Effects.none)
    (h : WritesOnce (op s)) : WritesOnce (guarded g op s) := by
  unfold guarded
  split
  · exact h
  · simp [WritesOnce, hs]
  · trivial

/-- An operation without a guard records each register of its destination once, the two of a pair and the three of
`dealloc_return` being different. The operations of the last case have no general register as a destination. -/
theorem writesOnce_unguarded {op : Operation} {j : Instr} (hj : Line.instr ⟨none, op⟩ = some j) (s : State)
    (is : List Instr) : WritesOnce (exec j (s.generated is)) := by
  cases op with
  | cmpEqToR rd | tfrRp rd | tfrRp4 rd | addRr rd | addRi rd | subRr rd | andRr rd | orRr rd | xorRr rd | aslh rd
  | asrh rd | sxtb rd | sxth rd | zxtb rd | zxth rd | tfr rd | tfri rd | muxRr rd =>
    cases hj
    exact List.nodup_singleton rd
  | combine rdd | vmux rdd =>
    cases hj
    exact nodup_pairRegs rdd
  | memwLd rd | membLd rd | memubLd rd | memhLd rd | memuhLd rd =>
    cases hj
    exact writesOnce_loading (fun u => u.recordReg rd _) (List.nodup_singleton rd)
  | memdLd =>
    cases hj
    exact writesOnce_loadPair rfl ..
  | memwSt | memdSt | membSt | memhSt =>
    cases hj
    exact writesOnce_storing rfl ..
  | memwLockedSt | memdLockedSt =>
    cases hj
    exact writesOnce_storeConditional rfl ..
  | jump =>
    cases hj
    exact writesOnce_withLabel (fun a u => .next (u.recordTarget a)) fun _ => List.nodup_nil
  | call =>
    cases hj
    exact writesOnce_withLabel (fun a u => .next ((u.recordReg 31 u.returnAddress).recordTarget a))
      fun _ => List.nodup_singleton _
  | callr =>
    cases hj
    exact List.nodup_singleton _
  | deallocReturn =>
    cases hj
    exact writesOnce_deallocReturn rfl
  | _ =>
    cases hj
    exact List.nodup_nil

/-- Every operation stands without a guard too. -/
theorem exists_unguarded (op : Operation) : ∃ j, Line.instr ⟨none, op⟩ = some j := by
  cases op <;> exact ⟨_, rfl⟩

/-- An instruction with a guard is its operation's instruction under that guard. -/
theorem exists_exec_guarded {i : Instr} {g : Guard} (h : i.guard = some g) :
    ∃ j, Line.instr ⟨none, i.op⟩ = some j ∧ ∀ s, exec i s = guarded g (exec j) s := by
  obtain ⟨j, hj⟩ := exists_unguarded i.op
  exact ⟨j, hj, exec_line_guarded (instr_of_guard h) hj⟩

theorem writesOnce_exec (i : Instr) (s : State) (is : List Instr) : WritesOnce (exec i (s.generated is)) := by
  cases hguard : i.guard with
  | none => exact writesOnce_unguarded (instr_of_guard hguard) s is
  | some g =>
    obtain ⟨j, hj, hexec⟩ := exists_exec_guarded hguard
    rw [hexec]
    exact writesOnce_guarded rfl (writesOnce_unguarded hj s is)

/-- An instruction with a guard records a register only if the guard is true (R201). -/
theorem guardValue_of_recorded {i : Instr} {g : Guard} {s : State} {is : List Instr} {r : GReg}
    (hguard : i.guard = some g) (h : r ∈ (effectsOf (exec i (s.generated is))).regs.map Prod.fst) :
    (s.generated is).guardValue g = some true := by
  obtain ⟨j, -, hexec⟩ := exists_exec_guarded hguard
  rw [hexec] at h
  match hvalue : (s.generated is).guardValue g with
  | some true => rfl
  | some false => rw [guarded_false _ hvalue] at h; cases h
  | none => rw [guarded_none _ hvalue] at h; cases h

/-! ### Two instructions of a packet (R320 to R322) -/

/-- The register that phase 4 reports is recorded twice. -/
theorem duplicate_mem {ws : List (GReg × Word)} {r : GReg} (h : duplicate ws = some r) :
    (ws.map Prod.fst).Duplicate r := by
  induction ws with
  | nil => cases h
  | cons w ws ih =>
    unfold duplicate at h
    split at h
    next hany =>
      cases h
      obtain ⟨x, hx, hxr⟩ := List.any_eq_true.1 hany
      exact .cons_mem (List.mem_map.2 ⟨x, hx, of_decide_eq_true hxr⟩)
    next => exact .cons_duplicate (ih h)

/-- What is twice in lists put together, but in none of them twice, is in two of them. -/
theorem exists_two_of_duplicate_flatMap {α β : Type} {f : α → List β} {l : List α} {x : β}
    (hf : ∀ a ∈ l, (f a).Nodup) (h : (l.flatMap f).Duplicate x) :
    ∃ l₁ a l₂ b l₃, l = l₁ ++ a :: l₂ ++ b :: l₃ ∧ x ∈ f a ∧ x ∈ f b := by
  induction l with
  | nil => cases h
  | cons a l ih =>
    have htail : ∀ b ∈ l, (f b).Nodup := fun b hb => hf b (List.mem_cons_of_mem a hb)
    by_cases hrest : (l.flatMap f).Duplicate x
    · obtain ⟨l₁, b, l₂, c, l₃, rfl, hb, hc⟩ := ih htail hrest
      exact ⟨a :: l₁, b, l₂, c, l₃, rfl, hb, hc⟩
    · classical
      have hhead := List.nodup_iff_count_le_one.1 (hf a List.mem_cons_self) x
      rw [List.duplicate_iff_two_le_count] at h hrest
      rw [List.flatMap_cons, List.count_append] at h
      have hxa : x ∈ f a := List.count_pos_iff.1 (by omega)
      have hxl : x ∈ l.flatMap f := List.count_pos_iff.1 (by omega)
      obtain ⟨b, hb, hxb⟩ := List.mem_flatMap.1 hxl
      obtain ⟨l₂, l₃, rfl⟩ := List.append_of_mem hb
      exact ⟨[], a, l₂, b, l₃, rfl, hxa, hxb⟩

/-- Two instructions of an admitted packet with a common destination both have a guard (R320, R321). -/
theorem exists_guards_of_common_destination {s : State} {l₁ l₂ l₃ : List Instr} {i j : Instr} {r : GReg}
    (hat : AtPacket s (l₁ ++ i :: l₂ ++ j :: l₃)) (hi : r ∈ i.role.regs) (hj : r ∈ j.role.regs) :
    ∃ g h, i.guard = some g ∧ j.guard = some h := by
  have hcheck : anyPair regConflict (l₁ ++ i :: l₂ ++ j :: l₃) = false :=
    check_atPacket hat (c := (_, .illFormedPacket .doubleWrite)) (by simp [Launch.checks])
  have hconflict : regConflict i j ≠ true := fun h => by
    rw [anyPair_append _ _ _ _ _ _ h] at hcheck
    cases hcheck
  have hcommon : i.role.regs.any j.role.regs.contains = true :=
    List.any_eq_true.2 ⟨r, hi, List.contains_iff_mem.2 hj⟩
  simp only [regConflict, hcommon, Bool.true_and, ne_eq, Bool.not_eq_true', Bool.not_eq_false, Bool.and_eq_true,
    Option.isSome_iff_exists] at hconflict
  obtain ⟨⟨g, hg⟩, h, hh⟩ := hconflict
  exact ⟨g, h, hg, hh⟩

/-! ### The packet step -/

/-- The outcome with which a packet stops is that of one of its instructions. -/
theorem firstStop_mem {os : List Result} {o : Result} (h : firstStop os = some o) : o ∈ os := by
  unfold firstStop at h
  split at h
  next hfault => exact Option.some.inj h ▸ List.mem_of_find?_eq_some hfault
  next =>
    split at h
    next hraise => exact Option.some.inj h ▸ List.mem_of_find?_eq_some hraise
    next => exact List.mem_of_find?_eq_some h

/-- The checks of phase 4 raise only for a register recorded twice, with the pc as the address (R601). -/
theorem finish_multipleWrite {s : State} {n : Nat} {new : Vector (Option Byte) 4} {e : Effects} {r : GReg} {a : Word}
    (h : s.finish n new e = .fault (.raised (.multipleWriteError r a))) : a = s.pc ∧ duplicate e.regs = some r := by
  unfold State.finish at h
  split at h
  next hdup =>
    cases h
    exact ⟨rfl, hdup⟩
  next =>
    split at h
    · cases h
    · split at h <;> cases h

/-- A packet raises the multiple-write error only in phase 4. -/
theorem runPacket_multipleWrite {s : State} {is : List Instr} {r : GReg} {a : Word}
    (h : s.runPacket is = .fault (.raised (.multipleWriteError r a))) :
    a = s.pc ∧ duplicate (merged (outcomes is (s.generated is))).regs = some r := by
  unfold State.runPacket at h
  split at h
  next hstop =>
    obtain ⟨i, -, hi⟩ := mem_outcomes.1 (firstStop_mem hstop)
    exact absurd (hi.trans h) ((writesOnce_exec i s is).ne_multipleWrite r a)
  next => exact finish_multipleWrite h

/-- A register that an instruction records is one of its destinations. -/
theorem mem_role_regs_of_recorded {i : Instr} {s : State} {is : List Instr} {r : GReg}
    (h : r ∈ (effectsOf (exec i (s.generated is))).regs.map Prod.fst) : r ∈ i.role.regs := by
  obtain ⟨w, hw, rfl⟩ := List.mem_map.1 h
  obtain ⟨ws, hws, hdest⟩ := (effectsOf_exec_allowed i s is).regs
  rw [hws] at hw
  exact hdest w hw

/-- Settles O49: the register is recorded by two instructions, so both have it as a destination, both have a guard, and
both guards are true. -/
theorem onlyGuardedWritersRaise : Obligations.OnlyGuardedWritersRaise := by
  intro s is r a hat hstep
  obtain ⟨ha, hdup⟩ := runPacket_multipleWrite (step_atPacket hat ▸ hstep)
  have htwice := duplicate_mem hdup
  rw [merged_regs, outcomes, List.flatMap_map, List.map_flatMap] at htwice
  obtain ⟨l₁, i, l₂, j, l₃, his, hri, hrj⟩ :=
    exists_two_of_duplicate_flatMap (fun i _ => (writesOnce_exec i s is).nodup_effectsOf) htwice
  have hdi := mem_role_regs_of_recorded hri
  have hdj := mem_role_regs_of_recorded hrj
  obtain ⟨g, h, hg, hh⟩ := exists_guards_of_common_destination (his ▸ hat) hdi hdj
  exact ⟨ha, l₁, i, l₂, j, l₃, g, h, his, hg, hh,
    guardValue_of_recorded hg hri, guardValue_of_recorded hh hrj, hdi, hdj⟩

end Sys2Proof.Machine
end
